-- ==== Sys2Proof/Word.lean ====
section
/-! DEFINITION. The word types of the core: the byte of a packet buffer or a plane sample, and the
two- and three-element records that index a register array by direction, vector, axis or plane. -/

namespace Sys2Proof

/-- A byte: of the packet buffer (R100), or one 8-bit sample of a plane (R52). -/
abbrev Byte := BitVec 8

/-- A register array with the indices 0 (`false`) and 1 (`true`). -/
structure Pair (α : Type) where
  p0 : α
  p1 : α
  deriving DecidableEq, Repr

/-- Element `i` of a two-element register array. -/
def Pair.get {α : Type} (p : Pair α) (i : Bool) : α := if i then p.p1 else p.p0

/-- The array with element `i` replaced. -/
def Pair.set {α : Type} (p : Pair α) (i : Bool) (v : α) : Pair α :=
  if i then { p with p1 := v } else { p with p0 := v }

/-- Both elements equal. -/
def Pair.const {α : Type} (v : α) : Pair α := ⟨v, v⟩

/-- The planes of a 4:2:0 frame buffer (R52), and the components of the DC predictors (R371). -/
inductive Plane where
  | y | cb | cr
  deriving DecidableEq, Repr

/-- A register array indexed by the component. -/
structure Triple (α : Type) where
  y  : α
  cb : α
  cr : α
  deriving DecidableEq, Repr

/-- Element `c` of a three-element register array. -/
def Triple.get {α : Type} (t : Triple α) : Plane → α
  | .y => t.y
  | .cb => t.cb
  | .cr => t.cr

/-- The array with element `c` replaced. -/
def Triple.set {α : Type} (t : Triple α) (c : Plane) (v : α) : Triple α :=
  match c with
  | .y => { t with y := v }
  | .cb => { t with cb := v }
  | .cr => { t with cr := v }

/-- All three elements equal. -/
def Triple.const {α : Type} (v : α) : Triple α := ⟨v, v, v⟩

end Sys2Proof
end

