-- ==== Sys2Proof/Config.lean ====
section
/-! DEFINITION. What an implementation fixes (the parameters of 00_scope.md R6, held in State as plain
data) and the free values: opaque constants with no body, so that no proof can rest on their value. -/

namespace Sys2Proof

/-- `P_PAST_END` (R6, D2): a bit read past the end of the packet buffer is a draw, or zero. -/
inductive PastEnd where
  | draw | zero
  deriving DecidableEq, Repr

/-- `P_IDCT` (R6, D14). -/
inductive IdctKind where
  | refIdct | srcIdct
  deriving DecidableEq, Repr

/-- `P_COEF_CONTROL` (R6, D12). -/
inductive CoefControl where
  | none | iso
  deriving DecidableEq, Repr

/-- `P_LOAD_MATRICES` (R6, D11). -/
inductive LoadMatrices where
  | ignore | iso
  deriving DecidableEq, Repr

/-- `P_INTRA_VLC` (R6, D13). -/
inductive IntraVlc where
  | iso | ignore
  deriving DecidableEq, Repr

/-- The parameters of 00_scope.md R6 that are not draws. A model takes them as arguments: they are a
field of State that no step writes, so a statement about every state holds for every parameter. -/
structure Params where
  ringN        : Nat
  pastEnd      : PastEnd
  idct         : IdctKind
  coefControl  : CoefControl
  loadMatrices : LoadMatrices
  intraVlc     : IntraVlc
  deriving DecidableEq, Repr

/-- The defaults of R6. `P_RING_N` is OPEN in the spec: 4 is the test vectors' value (DESIGN CHOICE, log
entry 4, unsafe for statements about State.reset alone). -/
def Params.default : Params :=
  { ringN := 4, pastEnd := .draw, idct := .refIdct, coefControl := .none,
    loadMatrices := .ignore, intraVlc := .iso }

namespace Config

/-- FREE VALUE (R202, D2; log entry 5): the bit drawn when bit position `q`, past the end of the buffer, is
read in decode command number `cmd` by the read made at cursor position `bp`. `look` tells the end-of-slice
test `peek(23)` from the read of an element at the same position. -/
opaque pastEndBit (cmd : Nat) (look : Bool) (bp q : Nat) : Bool

/-- FREE VALUE (R321, R202; log entry 7): how many further 1 flags an extra-information chain that has
run off the buffer draws before it draws a 0. -/
opaque pastEndRun (cmd bp : Nat) : Nat

/-- FREE VALUE (`P_ALLOC`, R6, D32; log entry 5): whether the allocation of the sequence header whose
fields end at `bp` in decode command number `cmd` succeeds. -/
opaque allocOk (cmd bp : Nat) : Bool

/-- FREE VALUES (R502, N6; log entry 9): the constants of `SRC_IDCT` that the spec leaves OPEN: the four
row tables, which row uses which, the rounding constants, and the butterfly's data flow with its tangent
constants (a column of eight row-pass values and an output row give the value before rounding). -/
opaque srcRowTab (set : Fin 4) (x u : Nat) : Int
@[inherit_doc srcRowTab] opaque srcRowSet (v : Nat) : Fin 4
@[inherit_doc srcRowTab] opaque srcRoundR : Int
@[inherit_doc srcRowTab] opaque srcButterfly (column : List Int) (y : Nat) : Int
@[inherit_doc srcRowTab] opaque srcRoundC : Int

end Config

end Sys2Proof
end

