-- ==== Sys2Proof/Syntax.lean ====
section
/-! DEFINITION. The instructions of the core: the syntax elements of the bitstream, one constructor for each
row of spec/opcode_table.json under the row's own mnemonic, with the operands its encoding carries; and the
decoding contexts, which say from which layout or table the next element is read (30_encoding.md, R246). -/

namespace Sys2Proof

/-- The 20 bits that follow composite_display_flag = 1 (R330). -/
structure CompositeDisplay where
  v_axis            : Bool
  field_sequence    : BitVec 3
  sub_carrier       : Bool
  burst_amplitude   : BitVec 7
  sub_carrier_phase : BitVec 8
  deriving DecidableEq, Repr

/-- The instructions. The rows that carry operands come first. -/
inductive Instr where
  -- Start codes (R152): the 24-bit value 0x000001 and a code byte.
  | slice_start_code (v : BitVec 8)
  | system_start_code (c : BitVec 8)
  /-- `0xB3` header (R303): sizes, aspect ratio, frame rate, bit rate, marker, VBV size, constrained flag, then the two
  matrices, each present when its load flag is 1. -/
  | sequence_header_fields (hs vs : BitVec 12) (ar fr : BitVec 4) (br : BitVec 18) (mk : Bool) (vbv : BitVec 10) (cp : Bool)
      (intra nonIntra : Option (List Byte))
  /-- Extension 1 (R312). -/
  | sequence_extension_fields (pl : BitVec 8) (prog : Bool) (cf hx vx : BitVec 2) (bx : BitVec 12) (mk : Bool) (vbvx : BitVec 8)
      (ld : Bool) (fn : BitVec 2) (fd : BitVec 5)
  /-- Extension 3 (R306): four optional matrices. -/
  | quant_matrix_extension_fields (intra nonIntra chromaIntra chromaNonIntra : Option (List Byte))
  /-- Extension 8 (R330). -/
  | picture_coding_extension_fields (f00 f01 f10 f11 : BitVec 4) (dcp ps : BitVec 2)
      (tff fpfd cmv qst ivf alt rff c420 pf : Bool) (cd : Option CompositeDisplay)
  /-- GOP header (R313): not read by the core. -/
  | group_of_pictures_fields (tc : BitVec 25) (cg bl : Bool)
  /-- Picture header of an I picture (R320). -/
  | picture_header_I_fields (tr : BitVec 10) (vd : BitVec 16) (extra : List Byte)
  /-- Picture header of a P picture (R320). -/
  | picture_header_P_fields (tr : BitVec 10) (vd : BitVec 16) (fpf : Bool) (ff : BitVec 3) (extra : List Byte)
  /-- Picture header of a B picture (R320). -/
  | picture_header_B_fields (tr : BitVec 10) (vd : BitVec 16) (fpf : Bool) (ff : BitVec 3) (fpb : Bool) (bf : BitVec 3)
      (extra : List Byte)
  /-- Picture header of another coding type (R320, R322). -/
  | picture_header_other_type_fields (tr : BitVec 10) (ct : BitVec 3) (vd : BitVec 16) (extra : List Byte)
  /-- Slice header without intra_slice_flag (R340); `q = 0` is forbidden and raises Corrupt. -/
  | slice_header_fields__no_intra_slice (q : BitVec 5)
  /-- Slice header with intra_slice_flag, 8 discarded bits and the extra chain (R340, R342). -/
  | slice_header_fields__intra_slice (q : BitVec 5) (i : BitVec 8) (extra : List Byte)
  /-- R430. -/
  | frame_motion_type (m : BitVec 2)
  /-- R431. -/
  | dct_type (t : Bool)
  /-- R434. -/
  | macroblock_quantiser_scale_code (q : BitVec 5)
  /-- R436, R440. -/
  | motion_vertical_field_select (f : Bool)
  /-- R454, R444: read and not checked (D29). -/
  | concealment_marker_bit (b : Bool)
  /-- R372: `size` bits of value `v`. -/
  | dct_dc_differential (size v : Nat)
  -- DCT coefficients table zero (B-14, R240): run, level, then the sign bit.
  | DCT0__0_1 (s : Bool)
  | DCT0__1_1 (s : Bool)
  | DCT0__0_2 (s : Bool)
  | DCT0__2_1 (s : Bool)
  | DCT0__0_3 (s : Bool)
  | DCT0__4_1 (s : Bool)
  | DCT0__3_1 (s : Bool)
  | DCT0_ESC (run : BitVec 6) (level : BitVec 12)
  | DCT0__7_1 (s : Bool)
  | DCT0__6_1 (s : Bool)
  | DCT0__1_2 (s : Bool)
  | DCT0__5_1 (s : Bool)
  | DCT0__2_2 (s : Bool)
  | DCT0__9_1 (s : Bool)
  | DCT0__0_4 (s : Bool)
  | DCT0__8_1 (s : Bool)
  | DCT0__13_1 (s : Bool)
  | DCT0__0_6 (s : Bool)
  | DCT0__12_1 (s : Bool)
  | DCT0__11_1 (s : Bool)
  | DCT0__3_2 (s : Bool)
  | DCT0__1_3 (s : Bool)
  | DCT0__0_5 (s : Bool)
  | DCT0__10_1 (s : Bool)
  | DCT0__16_1 (s : Bool)
  | DCT0__5_2 (s : Bool)
  | DCT0__0_7 (s : Bool)
  | DCT0__2_3 (s : Bool)
  | DCT0__1_4 (s : Bool)
  | DCT0__15_1 (s : Bool)
  | DCT0__14_1 (s : Bool)
  | DCT0__4_2 (s : Bool)
  | DCT0__0_11 (s : Bool)
  | DCT0__8_2 (s : Bool)
  | DCT0__4_3 (s : Bool)
  | DCT0__0_10 (s : Bool)
  | DCT0__2_4 (s : Bool)
  | DCT0__7_2 (s : Bool)
  | DCT0__21_1 (s : Bool)
  | DCT0__20_1 (s : Bool)
  | DCT0__0_9 (s : Bool)
  | DCT0__19_1 (s : Bool)
  | DCT0__18_1 (s : Bool)
  | DCT0__1_5 (s : Bool)
  | DCT0__3_3 (s : Bool)
  | DCT0__0_8 (s : Bool)
  | DCT0__6_2 (s : Bool)
  | DCT0__17_1 (s : Bool)
  | DCT0__10_2 (s : Bool)
  | DCT0__9_2 (s : Bool)
  | DCT0__5_3 (s : Bool)
  | DCT0__3_4 (s : Bool)
  | DCT0__2_5 (s : Bool)
  | DCT0__1_7 (s : Bool)
  | DCT0__1_6 (s : Bool)
  | DCT0__0_15 (s : Bool)
  | DCT0__0_14 (s : Bool)
  | DCT0__0_13 (s : Bool)
  | DCT0__0_12 (s : Bool)
  | DCT0__26_1 (s : Bool)
  | DCT0__25_1 (s : Bool)
  | DCT0__24_1 (s : Bool)
  | DCT0__23_1 (s : Bool)
  | DCT0__22_1 (s : Bool)
  | DCT0__0_31 (s : Bool)
  | DCT0__0_30 (s : Bool)
  | DCT0__0_29 (s : Bool)
  | DCT0__0_28 (s : Bool)
  | DCT0__0_27 (s : Bool)
  | DCT0__0_26 (s : Bool)
  | DCT0__0_25 (s : Bool)
  | DCT0__0_24 (s : Bool)
  | DCT0__0_23 (s : Bool)
  | DCT0__0_22 (s : Bool)
  | DCT0__0_21 (s : Bool)
  | DCT0__0_20 (s : Bool)
  | DCT0__0_19 (s : Bool)
  | DCT0__0_18 (s : Bool)
  | DCT0__0_17 (s : Bool)
  | DCT0__0_16 (s : Bool)
  | DCT0__0_40 (s : Bool)
  | DCT0__0_39 (s : Bool)
  | DCT0__0_38 (s : Bool)
  | DCT0__0_37 (s : Bool)
  | DCT0__0_36 (s : Bool)
  | DCT0__0_35 (s : Bool)
  | DCT0__0_34 (s : Bool)
  | DCT0__0_33 (s : Bool)
  | DCT0__0_32 (s : Bool)
  | DCT0__1_14 (s : Bool)
  | DCT0__1_13 (s : Bool)
  | DCT0__1_12 (s : Bool)
  | DCT0__1_11 (s : Bool)
  | DCT0__1_10 (s : Bool)
  | DCT0__1_9 (s : Bool)
  | DCT0__1_8 (s : Bool)
  | DCT0__1_18 (s : Bool)
  | DCT0__1_17 (s : Bool)
  | DCT0__1_16 (s : Bool)
  | DCT0__1_15 (s : Bool)
  | DCT0__6_3 (s : Bool)
  | DCT0__16_2 (s : Bool)
  | DCT0__15_2 (s : Bool)
  | DCT0__14_2 (s : Bool)
  | DCT0__13_2 (s : Bool)
  | DCT0__12_2 (s : Bool)
  | DCT0__11_2 (s : Bool)
  | DCT0__31_1 (s : Bool)
  | DCT0__30_1 (s : Bool)
  | DCT0__29_1 (s : Bool)
  | DCT0__28_1 (s : Bool)
  | DCT0__27_1 (s : Bool)
  -- The first coefficient of a non-intra block (R241).
  | DCT0_FIRST__0_1 (s : Bool)
  -- DCT coefficients table one (B-15, R242): run, level, then the sign bit.
  | DCT1__0_1 (s : Bool)
  | DCT1__1_1 (s : Bool)
  | DCT1__0_2 (s : Bool)
  | DCT1__0_3 (s : Bool)
  | DCT1__2_1 (s : Bool)
  | DCT1__1_2 (s : Bool)
  | DCT1__3_1 (s : Bool)
  | DCT1__0_4 (s : Bool)
  | DCT1__0_5 (s : Bool)
  | DCT1_ESC (run : BitVec 6) (level : BitVec 12)
  | DCT1__0_7 (s : Bool)
  | DCT1__0_6 (s : Bool)
  | DCT1__4_1 (s : Bool)
  | DCT1__5_1 (s : Bool)
  | DCT1__7_1 (s : Bool)
  | DCT1__8_1 (s : Bool)
  | DCT1__6_1 (s : Bool)
  | DCT1__2_2 (s : Bool)
  | DCT1__9_1 (s : Bool)
  | DCT1__1_3 (s : Bool)
  | DCT1__10_1 (s : Bool)
  | DCT1__0_8 (s : Bool)
  | DCT1__0_9 (s : Bool)
  | DCT1__1_5 (s : Bool)
  | DCT1__11_1 (s : Bool)
  | DCT1__0_11 (s : Bool)
  | DCT1__0_10 (s : Bool)
  | DCT1__13_1 (s : Bool)
  | DCT1__12_1 (s : Bool)
  | DCT1__3_2 (s : Bool)
  | DCT1__1_4 (s : Bool)
  | DCT1__0_12 (s : Bool)
  | DCT1__0_13 (s : Bool)
  | DCT1__2_3 (s : Bool)
  | DCT1__4_2 (s : Bool)
  | DCT1__0_14 (s : Bool)
  | DCT1__0_15 (s : Bool)
  | DCT1__5_2 (s : Bool)
  | DCT1__14_1 (s : Bool)
  | DCT1__15_1 (s : Bool)
  | DCT1__2_4 (s : Bool)
  | DCT1__16_1 (s : Bool)
  | DCT1__8_2 (s : Bool)
  | DCT1__4_3 (s : Bool)
  | DCT1__7_2 (s : Bool)
  | DCT1__21_1 (s : Bool)
  | DCT1__20_1 (s : Bool)
  | DCT1__19_1 (s : Bool)
  | DCT1__18_1 (s : Bool)
  | DCT1__3_3 (s : Bool)
  | DCT1__6_2 (s : Bool)
  | DCT1__17_1 (s : Bool)
  | DCT1__10_2 (s : Bool)
  | DCT1__9_2 (s : Bool)
  | DCT1__5_3 (s : Bool)
  | DCT1__3_4 (s : Bool)
  | DCT1__2_5 (s : Bool)
  | DCT1__1_7 (s : Bool)
  | DCT1__1_6 (s : Bool)
  | DCT1__26_1 (s : Bool)
  | DCT1__25_1 (s : Bool)
  | DCT1__24_1 (s : Bool)
  | DCT1__23_1 (s : Bool)
  | DCT1__22_1 (s : Bool)
  | DCT1__0_31 (s : Bool)
  | DCT1__0_30 (s : Bool)
  | DCT1__0_29 (s : Bool)
  | DCT1__0_28 (s : Bool)
  | DCT1__0_27 (s : Bool)
  | DCT1__0_26 (s : Bool)
  | DCT1__0_25 (s : Bool)
  | DCT1__0_24 (s : Bool)
  | DCT1__0_23 (s : Bool)
  | DCT1__0_22 (s : Bool)
  | DCT1__0_21 (s : Bool)
  | DCT1__0_20 (s : Bool)
  | DCT1__0_19 (s : Bool)
  | DCT1__0_18 (s : Bool)
  | DCT1__0_17 (s : Bool)
  | DCT1__0_16 (s : Bool)
  | DCT1__0_40 (s : Bool)
  | DCT1__0_39 (s : Bool)
  | DCT1__0_38 (s : Bool)
  | DCT1__0_37 (s : Bool)
  | DCT1__0_36 (s : Bool)
  | DCT1__0_35 (s : Bool)
  | DCT1__0_34 (s : Bool)
  | DCT1__0_33 (s : Bool)
  | DCT1__0_32 (s : Bool)
  | DCT1__1_14 (s : Bool)
  | DCT1__1_13 (s : Bool)
  | DCT1__1_12 (s : Bool)
  | DCT1__1_11 (s : Bool)
  | DCT1__1_10 (s : Bool)
  | DCT1__1_9 (s : Bool)
  | DCT1__1_8 (s : Bool)
  | DCT1__1_18 (s : Bool)
  | DCT1__1_17 (s : Bool)
  | DCT1__1_16 (s : Bool)
  | DCT1__1_15 (s : Bool)
  | DCT1__6_3 (s : Bool)
  | DCT1__16_2 (s : Bool)
  | DCT1__15_2 (s : Bool)
  | DCT1__14_2 (s : Bool)
  | DCT1__13_2 (s : Bool)
  | DCT1__12_2 (s : Bool)
  | DCT1__11_2 (s : Bool)
  | DCT1__31_1 (s : Bool)
  | DCT1__30_1 (s : Bool)
  | DCT1__29_1 (s : Bool)
  | DCT1__28_1 (s : Bool)
  | DCT1__27_1 (s : Bool)
  -- Start codes (R152): the 24-bit value 0x000001 and a code byte.
  | picture_start_code
  | reserved_B0
  | reserved_B1
  | reserved_B6
  | user_data_start_code
  | sequence_header_code
  | sequence_error_code
  | extension_start_code
  | sequence_end_code
  | group_start_code
  -- Extension identifiers (R163).
  | extension_id_0_reserved
  | extension_id_1_sequence_extension
  | extension_id_2_sequence_display_extension
  | extension_id_3_quant_matrix_extension
  | extension_id_4_copyright_extension
  | extension_id_5_sequence_scalable_extension
  | extension_id_6_reserved
  | extension_id_7_picture_display_extension
  | extension_id_8_picture_coding_extension
  | extension_id_9_picture_spatial_scalable_extension
  | extension_id_10_picture_temporal_scalable_extension
  | extension_id_11_camera_parameters_extension
  | extension_id_12_itu_t_extension
  | extension_id_13_reserved
  | extension_id_14_reserved
  | extension_id_15_reserved
  -- Macroblock address increments (B-1, R232).
  | MBA_1
  | MBA_3
  | MBA_2
  | MBA_5
  | MBA_4
  | MBA_7
  | MBA_6
  | MBA_9
  | MBA_8
  | MBA_15
  | MBA_14
  | MBA_13
  | MBA_12
  | MBA_11
  | MBA_10
  | MBA_21
  | MBA_20
  | MBA_19
  | MBA_18
  | MBA_17
  | MBA_16
  | MBA_ESC
  | MBA_33
  | MBA_32
  | MBA_31
  | MBA_30
  | MBA_29
  | MBA_28
  | MBA_27
  | MBA_26
  | MBA_25
  | MBA_24
  | MBA_23
  | MBA_22
  -- Macroblock types of I pictures (B-2, R233).
  | MBTYPE_I_I
  | MBTYPE_I_Q_I
  -- Macroblock types of P pictures (B-3, R234).
  | MBTYPE_P_F_P
  | MBTYPE_P_P
  | MBTYPE_P_F
  | MBTYPE_P_Q_P
  | MBTYPE_P_Q_F_P
  | MBTYPE_P_I
  | MBTYPE_P_Q_I
  -- Macroblock types of B pictures (B-4, R235).
  | MBTYPE_B_F_B
  | MBTYPE_B_F_B_P
  | MBTYPE_B_B
  | MBTYPE_B_B_P
  | MBTYPE_B_F
  | MBTYPE_B_F_P
  | MBTYPE_B_Q_F_B_P
  | MBTYPE_B_I
  | MBTYPE_B_Q_I
  | MBTYPE_B_Q_B_P
  | MBTYPE_B_Q_F_P
  -- Coded block patterns (B-9, R236).
  | CBP_60
  | CBP_32
  | CBP_16
  | CBP_8
  | CBP_4
  | CBP_62
  | CBP_2
  | CBP_61
  | CBP_1
  | CBP_56
  | CBP_52
  | CBP_44
  | CBP_28
  | CBP_40
  | CBP_20
  | CBP_48
  | CBP_12
  | CBP_63
  | CBP_3
  | CBP_36
  | CBP_24
  | CBP_34
  | CBP_18
  | CBP_10
  | CBP_6
  | CBP_33
  | CBP_17
  | CBP_9
  | CBP_5
  | CBP_58
  | CBP_54
  | CBP_46
  | CBP_30
  | CBP_57
  | CBP_53
  | CBP_45
  | CBP_29
  | CBP_38
  | CBP_26
  | CBP_37
  | CBP_25
  | CBP_43
  | CBP_23
  | CBP_51
  | CBP_15
  | CBP_42
  | CBP_22
  | CBP_50
  | CBP_14
  | CBP_41
  | CBP_21
  | CBP_49
  | CBP_13
  | CBP_35
  | CBP_19
  | CBP_11
  | CBP_7
  | CBP_0
  | CBP_39
  | CBP_27
  | CBP_59
  | CBP_55
  | CBP_47
  | CBP_31
  -- Motion codes (B-10, R237). The sign bit and the residual that follow a non-zero magnitude (R155) are read by the
  -- meaning, as the pseudocode of R237 and R437 does (log entry 11).
  | MV_0
  | MV_1
  | MV_2
  | MV_3
  | MV_4
  | MV_7
  | MV_6
  | MV_5
  | MV_10
  | MV_9
  | MV_8
  | MV_16
  | MV_15
  | MV_14
  | MV_13
  | MV_12
  | MV_11
  -- DC sizes of luma blocks (B-12, R238).
  | DCL_1
  | DCL_2
  | DCL_0
  | DCL_3
  | DCL_4
  | DCL_5
  | DCL_6
  | DCL_7
  | DCL_8
  | DCL_9
  | DCL_10
  | DCL_11
  -- DC sizes of chroma blocks (B-13, R239).
  | DCC_0
  | DCC_1
  | DCC_2
  | DCC_3
  | DCC_4
  | DCC_5
  | DCC_6
  | DCC_7
  | DCC_8
  | DCC_9
  | DCC_10
  | DCC_11
  -- DCT coefficients table zero (B-14, R240): run, level, then the sign bit.
  | DCT0_EOB
  -- DCT coefficients table one (B-15, R242): run, level, then the sign bit.
  | DCT1_EOB
  deriving DecidableEq, Repr

/-- A decoding context: the layout or VLC table the next element is read from (R152, R153, R163, R246).
`dcDiff n` reads `n` bits of DC differential. -/
inductive DecCtx where
  | startCode | extId
  | seqHeader | seqExt | quantMatrix | picCodingExt | gop | picHeader | sliceHeader
  | frameMotionType | dctType | mbQuant | fieldSelect | marker
  | dcDiff (size : Nat)
  | mba | mbTypeI | mbTypeP | mbTypeB | cbp
  | mv
  | dcl | dcc | dct0 | dct0First | dct1
  deriving DecidableEq, Repr

end Sys2Proof
end

