-- ==== Sys2Proof/WellFormed.lean ====
section
/-! DEFINITION. Which instruction terms are words of the bitstream: the checks on operands whose type is wider than
what the encoding can carry. -/

namespace Sys2Proof

/-- A quantiser matrix carries 64 bytes (R153). -/
def matrixWf : Option (List Byte) → Bool
  | none => true
  | some m => m.length == 64

/-- The code byte of a slice start code is 0x01 to 0xAF (R152). -/
def isSliceCode (c : Byte) : Bool := decide (1 ≤ c.toNat) && decide (c.toNat ≤ 0xAF)

/-- Well-formedness: the term stands for a word of its row. Every operand of a row not named here takes any value
of its type. -/
def Instr.wf : Instr → Bool
  | .slice_start_code v => isSliceCode v
  | .system_start_code c => decide (0xB9 ≤ c.toNat)
  | .sequence_header_fields _ _ _ _ _ _ _ _ intra nonIntra => matrixWf intra && matrixWf nonIntra
  | .quant_matrix_extension_fields a b c d => matrixWf a && matrixWf b && matrixWf c && matrixWf d
  | .picture_header_other_type_fields _ ct _ _ => !(ct == 1 || ct == 2 || ct == 3)
  | .slice_header_fields__intra_slice q _ _ => q != 0
  | .dct_dc_differential size v => decide (1 ≤ size) && decide (size ≤ 11) && decide (v < 2 ^ size)
  | _ => true

end Sys2Proof
end

