-- ==== Sys2Proof/Decode.lean ====
section
/-! DEFINITION. Decoding: from the bits at the fetch position to an instruction, for each decoding context; and after it
the encoder. Bits are read first bit most significant (R7, R102). The decoder is total: it answers `none` exactly
where no code word of the table in use begins at the bits (an invalid code, R231). -/

namespace Sys2Proof

-- ---------------------------------------------------------------- bit fields

/-- The `n`-bit unsigned value of the bits at `p`, first bit most significant: the loop of R200. -/
def fld (rd : Nat → Bool) (p : Nat) : Nat → Nat
  | 0 => 0
  | n + 1 => 2 * fld rd p n + (rd (p + n)).toNat

/-- The field of `n` bits at `p` as a bit vector. -/
def bv (rd : Nat → Bool) (p n : Nat) : BitVec n := BitVec.ofNat n (fld rd p n)

/-- The `n` bits of `v`, most significant first. -/
def natBits : Nat → Nat → List Bool
  | 0, _ => []
  | n + 1, v => v.testBit n :: natBits n v

/-- The bits of a bit vector, most significant first. -/
def bvBits {n : Nat} (v : BitVec n) : List Bool := natBits n v.toNat

/-- Bit `q` of a byte buffer: bit `7 - q mod 8` of byte `q div 8` (R7). -/
def byteBit (bs : List Byte) (q : Nat) : Bool := (bs.getD (q / 8) 0).getLsbD (7 - q % 8)

/-- `n` bytes at `p`. -/
def readBytes (rd : Nat → Bool) (p : Nat) : Nat → List Byte
  | 0 => []
  | n + 1 => bv rd p 8 :: readBytes rd (p + 8) n

/-- A quantiser matrix: a load flag at `p`, then 64 bytes when it is 1 (R153, R306). -/
def readMatrix (rd : Nat → Bool) (p : Nat) : Option (List Byte) :=
  if rd p then some (readBytes rd (p + 1) 64) else none

/-- The bits of a load flag and its matrix. -/
def matrixLen : Option (List Byte) → Nat
  | none => 1
  | some _ => 513

/-- `extraChain()` (R321): while the flag at `p` is 1, 8 bits of payload. `fuel` bounds the 1 flags: those inside the
buffer and, past its end, the run of drawn ones (Config.pastEndRun). -/
def readChain (rd : Nat → Bool) : Nat → Nat → List Byte
  | 0, _ => []
  | fuel + 1, p => if rd p then bv rd (p + 1) 8 :: readChain rd fuel (p + 9) else []

/-- The bits of a chain: 9 for each payload byte and the stop bit. -/
def chainLen (extra : List Byte) : Nat := 9 * extra.length + 1

-- ---------------------------------------------------------------- VLC tables

/-- A row of a VLC table (R154): the length and value of its code word, and the instruction, which takes its sign bit or
escape fields (R155) from the bits after the code word. -/
structure VlcRow where
  len   : Nat
  code  : Nat
  build : (Nat → Bool) → Instr

/-- `vlc(T)` (R230): the row whose code word begins the bits, or `none` (an invalid code, R231). -/
def lookupVlc (t : List VlcRow) (rd : Nat → Bool) : Option Instr :=
  (t.find? fun r => fld rd 0 r.len == r.code).map fun r => r.build fun k => rd (r.len + k)

/-- A code word with nothing after it. -/
def plainRow (len code : Nat) (i : Instr) : VlcRow := ⟨len, code, fun _ => i⟩

/-- A DCT coefficient: a sign bit follows the code word. -/
def signRow (len code : Nat) (build : Bool → Instr) : VlcRow := ⟨len, code, fun rd => build (rd 0)⟩

/-- A DCT escape: a 6-bit run and a 12-bit level follow (R243). -/
def escRow (len code : Nat) (build : BitVec 6 → BitVec 12 → Instr) : VlcRow :=
  ⟨len, code, fun rd => build (bv rd 0 6) (bv rd 6 12)⟩

/-- Table MBA (R232, table B-1), part 1. -/
def mbaTable1 : List VlcRow :=
  [ plainRow 1 0b1 .MBA_1,
    plainRow 3 0b010 .MBA_3,
    plainRow 3 0b011 .MBA_2,
    plainRow 4 0b0010 .MBA_5,
    plainRow 4 0b0011 .MBA_4,
    plainRow 5 0b00010 .MBA_7,
    plainRow 5 0b00011 .MBA_6,
    plainRow 7 0b0000110 .MBA_9,
    plainRow 7 0b0000111 .MBA_8,
    plainRow 8 0b00000110 .MBA_15,
    plainRow 8 0b00000111 .MBA_14,
    plainRow 8 0b00001000 .MBA_13,
    plainRow 8 0b00001001 .MBA_12,
    plainRow 8 0b00001010 .MBA_11,
    plainRow 8 0b00001011 .MBA_10,
    plainRow 10 0b0000010010 .MBA_21,
    plainRow 10 0b0000010011 .MBA_20,
    plainRow 10 0b0000010100 .MBA_19,
    plainRow 10 0b0000010101 .MBA_18,
    plainRow 10 0b0000010110 .MBA_17,
    plainRow 10 0b0000010111 .MBA_16,
    plainRow 11 0b00000001000 .MBA_ESC,
    plainRow 11 0b00000011000 .MBA_33,
    plainRow 11 0b00000011001 .MBA_32 ]

/-- Table MBA (R232, table B-1), part 2. -/
def mbaTable2 : List VlcRow :=
  [ plainRow 11 0b00000011010 .MBA_31,
    plainRow 11 0b00000011011 .MBA_30,
    plainRow 11 0b00000011100 .MBA_29,
    plainRow 11 0b00000011101 .MBA_28,
    plainRow 11 0b00000011110 .MBA_27,
    plainRow 11 0b00000011111 .MBA_26,
    plainRow 11 0b00000100000 .MBA_25,
    plainRow 11 0b00000100001 .MBA_24,
    plainRow 11 0b00000100010 .MBA_23,
    plainRow 11 0b00000100011 .MBA_22 ]

/-- Table MBA (R232, table B-1). -/
def mbaTable : List VlcRow := mbaTable1 ++ mbaTable2

/-- Table MBTYPE_I (R233, table B-2). -/
def mbTypeITable : List VlcRow :=
  [ plainRow 1 0b1 .MBTYPE_I_I,
    plainRow 2 0b01 .MBTYPE_I_Q_I ]

/-- Table MBTYPE_P (R234, table B-3). -/
def mbTypePTable : List VlcRow :=
  [ plainRow 1 0b1 .MBTYPE_P_F_P,
    plainRow 2 0b01 .MBTYPE_P_P,
    plainRow 3 0b001 .MBTYPE_P_F,
    plainRow 5 0b00001 .MBTYPE_P_Q_P,
    plainRow 5 0b00010 .MBTYPE_P_Q_F_P,
    plainRow 5 0b00011 .MBTYPE_P_I,
    plainRow 6 0b000001 .MBTYPE_P_Q_I ]

/-- Table MBTYPE_B (R235, table B-4). -/
def mbTypeBTable : List VlcRow :=
  [ plainRow 2 0b10 .MBTYPE_B_F_B,
    plainRow 2 0b11 .MBTYPE_B_F_B_P,
    plainRow 3 0b010 .MBTYPE_B_B,
    plainRow 3 0b011 .MBTYPE_B_B_P,
    plainRow 4 0b0010 .MBTYPE_B_F,
    plainRow 4 0b0011 .MBTYPE_B_F_P,
    plainRow 5 0b00010 .MBTYPE_B_Q_F_B_P,
    plainRow 5 0b00011 .MBTYPE_B_I,
    plainRow 6 0b000001 .MBTYPE_B_Q_I,
    plainRow 6 0b000010 .MBTYPE_B_Q_B_P,
    plainRow 6 0b000011 .MBTYPE_B_Q_F_P ]

/-- Table CBP (R236, table B-9), part 1. -/
def cbpTable1 : List VlcRow :=
  [ plainRow 3 0b111 .CBP_60,
    plainRow 4 0b1010 .CBP_32,
    plainRow 4 0b1011 .CBP_16,
    plainRow 4 0b1100 .CBP_8,
    plainRow 4 0b1101 .CBP_4,
    plainRow 5 0b01000 .CBP_62,
    plainRow 5 0b01001 .CBP_2,
    plainRow 5 0b01010 .CBP_61,
    plainRow 5 0b01011 .CBP_1,
    plainRow 5 0b01100 .CBP_56,
    plainRow 5 0b01101 .CBP_52,
    plainRow 5 0b01110 .CBP_44,
    plainRow 5 0b01111 .CBP_28,
    plainRow 5 0b10000 .CBP_40,
    plainRow 5 0b10001 .CBP_20,
    plainRow 5 0b10010 .CBP_48,
    plainRow 5 0b10011 .CBP_12,
    plainRow 6 0b001100 .CBP_63,
    plainRow 6 0b001101 .CBP_3,
    plainRow 6 0b001110 .CBP_36,
    plainRow 6 0b001111 .CBP_24,
    plainRow 7 0b0010000 .CBP_34,
    plainRow 7 0b0010001 .CBP_18,
    plainRow 7 0b0010010 .CBP_10 ]

/-- Table CBP (R236, table B-9), part 2. -/
def cbpTable2 : List VlcRow :=
  [ plainRow 7 0b0010011 .CBP_6,
    plainRow 7 0b0010100 .CBP_33,
    plainRow 7 0b0010101 .CBP_17,
    plainRow 7 0b0010110 .CBP_9,
    plainRow 7 0b0010111 .CBP_5,
    plainRow 8 0b00000100 .CBP_58,
    plainRow 8 0b00000101 .CBP_54,
    plainRow 8 0b00000110 .CBP_46,
    plainRow 8 0b00000111 .CBP_30,
    plainRow 8 0b00001000 .CBP_57,
    plainRow 8 0b00001001 .CBP_53,
    plainRow 8 0b00001010 .CBP_45,
    plainRow 8 0b00001011 .CBP_29,
    plainRow 8 0b00001100 .CBP_38,
    plainRow 8 0b00001101 .CBP_26,
    plainRow 8 0b00001110 .CBP_37,
    plainRow 8 0b00001111 .CBP_25,
    plainRow 8 0b00010000 .CBP_43,
    plainRow 8 0b00010001 .CBP_23,
    plainRow 8 0b00010010 .CBP_51,
    plainRow 8 0b00010011 .CBP_15,
    plainRow 8 0b00010100 .CBP_42,
    plainRow 8 0b00010101 .CBP_22,
    plainRow 8 0b00010110 .CBP_50 ]

/-- Table CBP (R236, table B-9), part 3. -/
def cbpTable3 : List VlcRow :=
  [ plainRow 8 0b00010111 .CBP_14,
    plainRow 8 0b00011000 .CBP_41,
    plainRow 8 0b00011001 .CBP_21,
    plainRow 8 0b00011010 .CBP_49,
    plainRow 8 0b00011011 .CBP_13,
    plainRow 8 0b00011100 .CBP_35,
    plainRow 8 0b00011101 .CBP_19,
    plainRow 8 0b00011110 .CBP_11,
    plainRow 8 0b00011111 .CBP_7,
    plainRow 9 0b000000001 .CBP_0,
    plainRow 9 0b000000010 .CBP_39,
    plainRow 9 0b000000011 .CBP_27,
    plainRow 9 0b000000100 .CBP_59,
    plainRow 9 0b000000101 .CBP_55,
    plainRow 9 0b000000110 .CBP_47,
    plainRow 9 0b000000111 .CBP_31 ]

/-- Table CBP (R236, table B-9). -/
def cbpTable : List VlcRow := cbpTable1 ++ cbpTable2 ++ cbpTable3

/-- Table DCL (R238, table B-12). -/
def dclTable : List VlcRow :=
  [ plainRow 2 0b00 .DCL_1,
    plainRow 2 0b01 .DCL_2,
    plainRow 3 0b100 .DCL_0,
    plainRow 3 0b101 .DCL_3,
    plainRow 3 0b110 .DCL_4,
    plainRow 4 0b1110 .DCL_5,
    plainRow 5 0b11110 .DCL_6,
    plainRow 6 0b111110 .DCL_7,
    plainRow 7 0b1111110 .DCL_8,
    plainRow 8 0b11111110 .DCL_9,
    plainRow 9 0b111111110 .DCL_10,
    plainRow 9 0b111111111 .DCL_11 ]

/-- Table DCC (R239, table B-13). -/
def dccTable : List VlcRow :=
  [ plainRow 2 0b00 .DCC_0,
    plainRow 2 0b01 .DCC_1,
    plainRow 2 0b10 .DCC_2,
    plainRow 3 0b110 .DCC_3,
    plainRow 4 0b1110 .DCC_4,
    plainRow 5 0b11110 .DCC_5,
    plainRow 6 0b111110 .DCC_6,
    plainRow 7 0b1111110 .DCC_7,
    plainRow 8 0b11111110 .DCC_8,
    plainRow 9 0b111111110 .DCC_9,
    plainRow 10 0b1111111110 .DCC_10,
    plainRow 10 0b1111111111 .DCC_11 ]

/-- Table MV (R237, table B-10). -/
def mvTable : List VlcRow :=
  [ plainRow 1 0b1 .MV_0,
    plainRow 2 0b01 .MV_1,
    plainRow 3 0b001 .MV_2,
    plainRow 4 0b0001 .MV_3,
    plainRow 6 0b000011 .MV_4,
    plainRow 7 0b0000011 .MV_7,
    plainRow 7 0b0000100 .MV_6,
    plainRow 7 0b0000101 .MV_5,
    plainRow 9 0b000001001 .MV_10,
    plainRow 9 0b000001010 .MV_9,
    plainRow 9 0b000001011 .MV_8,
    plainRow 10 0b0000001100 .MV_16,
    plainRow 10 0b0000001101 .MV_15,
    plainRow 10 0b0000001110 .MV_14,
    plainRow 10 0b0000001111 .MV_13,
    plainRow 10 0b0000010000 .MV_12,
    plainRow 10 0b0000010001 .MV_11 ]

/-- Table DCT0 (R240, table B-14) but for (0, 1) and end of block, part 1. -/
def dct0Rest1 : List VlcRow :=
  [ signRow 3 0b011 .DCT0__1_1,
    signRow 4 0b0100 .DCT0__0_2,
    signRow 4 0b0101 .DCT0__2_1,
    signRow 5 0b00101 .DCT0__0_3,
    signRow 5 0b00110 .DCT0__4_1,
    signRow 5 0b00111 .DCT0__3_1,
    escRow 6 0b000001 .DCT0_ESC,
    signRow 6 0b000100 .DCT0__7_1,
    signRow 6 0b000101 .DCT0__6_1,
    signRow 6 0b000110 .DCT0__1_2,
    signRow 6 0b000111 .DCT0__5_1,
    signRow 7 0b0000100 .DCT0__2_2,
    signRow 7 0b0000101 .DCT0__9_1,
    signRow 7 0b0000110 .DCT0__0_4,
    signRow 7 0b0000111 .DCT0__8_1,
    signRow 8 0b00100000 .DCT0__13_1,
    signRow 8 0b00100001 .DCT0__0_6,
    signRow 8 0b00100010 .DCT0__12_1,
    signRow 8 0b00100011 .DCT0__11_1,
    signRow 8 0b00100100 .DCT0__3_2,
    signRow 8 0b00100101 .DCT0__1_3,
    signRow 8 0b00100110 .DCT0__0_5,
    signRow 8 0b00100111 .DCT0__10_1,
    signRow 10 0b0000001000 .DCT0__16_1 ]

/-- Table DCT0 (R240, table B-14) but for (0, 1) and end of block, part 2. -/
def dct0Rest2 : List VlcRow :=
  [ signRow 10 0b0000001001 .DCT0__5_2,
    signRow 10 0b0000001010 .DCT0__0_7,
    signRow 10 0b0000001011 .DCT0__2_3,
    signRow 10 0b0000001100 .DCT0__1_4,
    signRow 10 0b0000001101 .DCT0__15_1,
    signRow 10 0b0000001110 .DCT0__14_1,
    signRow 10 0b0000001111 .DCT0__4_2,
    signRow 12 0b000000010000 .DCT0__0_11,
    signRow 12 0b000000010001 .DCT0__8_2,
    signRow 12 0b000000010010 .DCT0__4_3,
    signRow 12 0b000000010011 .DCT0__0_10,
    signRow 12 0b000000010100 .DCT0__2_4,
    signRow 12 0b000000010101 .DCT0__7_2,
    signRow 12 0b000000010110 .DCT0__21_1,
    signRow 12 0b000000010111 .DCT0__20_1,
    signRow 12 0b000000011000 .DCT0__0_9,
    signRow 12 0b000000011001 .DCT0__19_1,
    signRow 12 0b000000011010 .DCT0__18_1,
    signRow 12 0b000000011011 .DCT0__1_5,
    signRow 12 0b000000011100 .DCT0__3_3,
    signRow 12 0b000000011101 .DCT0__0_8,
    signRow 12 0b000000011110 .DCT0__6_2,
    signRow 12 0b000000011111 .DCT0__17_1,
    signRow 13 0b0000000010000 .DCT0__10_2 ]

/-- Table DCT0 (R240, table B-14) but for (0, 1) and end of block, part 3. -/
def dct0Rest3 : List VlcRow :=
  [ signRow 13 0b0000000010001 .DCT0__9_2,
    signRow 13 0b0000000010010 .DCT0__5_3,
    signRow 13 0b0000000010011 .DCT0__3_4,
    signRow 13 0b0000000010100 .DCT0__2_5,
    signRow 13 0b0000000010101 .DCT0__1_7,
    signRow 13 0b0000000010110 .DCT0__1_6,
    signRow 13 0b0000000010111 .DCT0__0_15,
    signRow 13 0b0000000011000 .DCT0__0_14,
    signRow 13 0b0000000011001 .DCT0__0_13,
    signRow 13 0b0000000011010 .DCT0__0_12,
    signRow 13 0b0000000011011 .DCT0__26_1,
    signRow 13 0b0000000011100 .DCT0__25_1,
    signRow 13 0b0000000011101 .DCT0__24_1,
    signRow 13 0b0000000011110 .DCT0__23_1,
    signRow 13 0b0000000011111 .DCT0__22_1,
    signRow 14 0b00000000010000 .DCT0__0_31,
    signRow 14 0b00000000010001 .DCT0__0_30,
    signRow 14 0b00000000010010 .DCT0__0_29,
    signRow 14 0b00000000010011 .DCT0__0_28,
    signRow 14 0b00000000010100 .DCT0__0_27,
    signRow 14 0b00000000010101 .DCT0__0_26,
    signRow 14 0b00000000010110 .DCT0__0_25,
    signRow 14 0b00000000010111 .DCT0__0_24,
    signRow 14 0b00000000011000 .DCT0__0_23 ]

/-- Table DCT0 (R240, table B-14) but for (0, 1) and end of block, part 4. -/
def dct0Rest4 : List VlcRow :=
  [ signRow 14 0b00000000011001 .DCT0__0_22,
    signRow 14 0b00000000011010 .DCT0__0_21,
    signRow 14 0b00000000011011 .DCT0__0_20,
    signRow 14 0b00000000011100 .DCT0__0_19,
    signRow 14 0b00000000011101 .DCT0__0_18,
    signRow 14 0b00000000011110 .DCT0__0_17,
    signRow 14 0b00000000011111 .DCT0__0_16,
    signRow 15 0b000000000010000 .DCT0__0_40,
    signRow 15 0b000000000010001 .DCT0__0_39,
    signRow 15 0b000000000010010 .DCT0__0_38,
    signRow 15 0b000000000010011 .DCT0__0_37,
    signRow 15 0b000000000010100 .DCT0__0_36,
    signRow 15 0b000000000010101 .DCT0__0_35,
    signRow 15 0b000000000010110 .DCT0__0_34,
    signRow 15 0b000000000010111 .DCT0__0_33,
    signRow 15 0b000000000011000 .DCT0__0_32,
    signRow 15 0b000000000011001 .DCT0__1_14,
    signRow 15 0b000000000011010 .DCT0__1_13,
    signRow 15 0b000000000011011 .DCT0__1_12,
    signRow 15 0b000000000011100 .DCT0__1_11,
    signRow 15 0b000000000011101 .DCT0__1_10,
    signRow 15 0b000000000011110 .DCT0__1_9,
    signRow 15 0b000000000011111 .DCT0__1_8,
    signRow 16 0b0000000000010000 .DCT0__1_18 ]

/-- Table DCT0 (R240, table B-14) but for (0, 1) and end of block, part 5. -/
def dct0Rest5 : List VlcRow :=
  [ signRow 16 0b0000000000010001 .DCT0__1_17,
    signRow 16 0b0000000000010010 .DCT0__1_16,
    signRow 16 0b0000000000010011 .DCT0__1_15,
    signRow 16 0b0000000000010100 .DCT0__6_3,
    signRow 16 0b0000000000010101 .DCT0__16_2,
    signRow 16 0b0000000000010110 .DCT0__15_2,
    signRow 16 0b0000000000010111 .DCT0__14_2,
    signRow 16 0b0000000000011000 .DCT0__13_2,
    signRow 16 0b0000000000011001 .DCT0__12_2,
    signRow 16 0b0000000000011010 .DCT0__11_2,
    signRow 16 0b0000000000011011 .DCT0__31_1,
    signRow 16 0b0000000000011100 .DCT0__30_1,
    signRow 16 0b0000000000011101 .DCT0__29_1,
    signRow 16 0b0000000000011110 .DCT0__28_1,
    signRow 16 0b0000000000011111 .DCT0__27_1 ]

/-- Table DCT0 (R240, table B-14) but for (0, 1) and end of block. -/
def dct0Rest : List VlcRow := dct0Rest1 ++ dct0Rest2 ++ dct0Rest3 ++ dct0Rest4 ++ dct0Rest5

/-- Table DCT0 (R240, table B-14). -/
def dct0Table : List VlcRow :=
  [ plainRow 2 0b10 .DCT0_EOB,
    signRow 2 0b11 .DCT0__0_1 ] ++ dct0Rest

/-- The first-coefficient form of table DCT0 (R241): (0, 1) is `1s` and there is no end of block. -/
def dct0FirstTable : List VlcRow :=
  [ signRow 1 0b1 .DCT0_FIRST__0_1 ] ++ dct0Rest

/-- Table DCT1 (R242, table B-15), part 1. -/
def dct1Table1 : List VlcRow :=
  [ signRow 2 0b10 .DCT1__0_1,
    signRow 3 0b010 .DCT1__1_1,
    signRow 3 0b110 .DCT1__0_2,
    plainRow 4 0b0110 .DCT1_EOB,
    signRow 4 0b0111 .DCT1__0_3,
    signRow 5 0b00101 .DCT1__2_1,
    signRow 5 0b00110 .DCT1__1_2,
    signRow 5 0b00111 .DCT1__3_1,
    signRow 5 0b11100 .DCT1__0_4,
    signRow 5 0b11101 .DCT1__0_5,
    escRow 6 0b000001 .DCT1_ESC,
    signRow 6 0b000100 .DCT1__0_7,
    signRow 6 0b000101 .DCT1__0_6,
    signRow 6 0b000110 .DCT1__4_1,
    signRow 6 0b000111 .DCT1__5_1,
    signRow 7 0b0000100 .DCT1__7_1,
    signRow 7 0b0000101 .DCT1__8_1,
    signRow 7 0b0000110 .DCT1__6_1,
    signRow 7 0b0000111 .DCT1__2_2,
    signRow 7 0b1111000 .DCT1__9_1,
    signRow 7 0b1111001 .DCT1__1_3,
    signRow 7 0b1111010 .DCT1__10_1,
    signRow 7 0b1111011 .DCT1__0_8,
    signRow 7 0b1111100 .DCT1__0_9 ]

/-- Table DCT1 (R242, table B-15), part 2. -/
def dct1Table2 : List VlcRow :=
  [ signRow 8 0b00100000 .DCT1__1_5,
    signRow 8 0b00100001 .DCT1__11_1,
    signRow 8 0b00100010 .DCT1__0_11,
    signRow 8 0b00100011 .DCT1__0_10,
    signRow 8 0b00100100 .DCT1__13_1,
    signRow 8 0b00100101 .DCT1__12_1,
    signRow 8 0b00100110 .DCT1__3_2,
    signRow 8 0b00100111 .DCT1__1_4,
    signRow 8 0b11111010 .DCT1__0_12,
    signRow 8 0b11111011 .DCT1__0_13,
    signRow 8 0b11111100 .DCT1__2_3,
    signRow 8 0b11111101 .DCT1__4_2,
    signRow 8 0b11111110 .DCT1__0_14,
    signRow 8 0b11111111 .DCT1__0_15,
    signRow 9 0b000000100 .DCT1__5_2,
    signRow 9 0b000000101 .DCT1__14_1,
    signRow 9 0b000000111 .DCT1__15_1,
    signRow 10 0b0000001100 .DCT1__2_4,
    signRow 10 0b0000001101 .DCT1__16_1,
    signRow 12 0b000000010001 .DCT1__8_2,
    signRow 12 0b000000010010 .DCT1__4_3,
    signRow 12 0b000000010101 .DCT1__7_2,
    signRow 12 0b000000010110 .DCT1__21_1,
    signRow 12 0b000000010111 .DCT1__20_1 ]

/-- Table DCT1 (R242, table B-15), part 3. -/
def dct1Table3 : List VlcRow :=
  [ signRow 12 0b000000011001 .DCT1__19_1,
    signRow 12 0b000000011010 .DCT1__18_1,
    signRow 12 0b000000011100 .DCT1__3_3,
    signRow 12 0b000000011110 .DCT1__6_2,
    signRow 12 0b000000011111 .DCT1__17_1,
    signRow 13 0b0000000010000 .DCT1__10_2,
    signRow 13 0b0000000010001 .DCT1__9_2,
    signRow 13 0b0000000010010 .DCT1__5_3,
    signRow 13 0b0000000010011 .DCT1__3_4,
    signRow 13 0b0000000010100 .DCT1__2_5,
    signRow 13 0b0000000010101 .DCT1__1_7,
    signRow 13 0b0000000010110 .DCT1__1_6,
    signRow 13 0b0000000011011 .DCT1__26_1,
    signRow 13 0b0000000011100 .DCT1__25_1,
    signRow 13 0b0000000011101 .DCT1__24_1,
    signRow 13 0b0000000011110 .DCT1__23_1,
    signRow 13 0b0000000011111 .DCT1__22_1,
    signRow 14 0b00000000010000 .DCT1__0_31,
    signRow 14 0b00000000010001 .DCT1__0_30,
    signRow 14 0b00000000010010 .DCT1__0_29,
    signRow 14 0b00000000010011 .DCT1__0_28,
    signRow 14 0b00000000010100 .DCT1__0_27,
    signRow 14 0b00000000010101 .DCT1__0_26,
    signRow 14 0b00000000010110 .DCT1__0_25 ]

/-- Table DCT1 (R242, table B-15), part 4. -/
def dct1Table4 : List VlcRow :=
  [ signRow 14 0b00000000010111 .DCT1__0_24,
    signRow 14 0b00000000011000 .DCT1__0_23,
    signRow 14 0b00000000011001 .DCT1__0_22,
    signRow 14 0b00000000011010 .DCT1__0_21,
    signRow 14 0b00000000011011 .DCT1__0_20,
    signRow 14 0b00000000011100 .DCT1__0_19,
    signRow 14 0b00000000011101 .DCT1__0_18,
    signRow 14 0b00000000011110 .DCT1__0_17,
    signRow 14 0b00000000011111 .DCT1__0_16,
    signRow 15 0b000000000010000 .DCT1__0_40,
    signRow 15 0b000000000010001 .DCT1__0_39,
    signRow 15 0b000000000010010 .DCT1__0_38,
    signRow 15 0b000000000010011 .DCT1__0_37,
    signRow 15 0b000000000010100 .DCT1__0_36,
    signRow 15 0b000000000010101 .DCT1__0_35,
    signRow 15 0b000000000010110 .DCT1__0_34,
    signRow 15 0b000000000010111 .DCT1__0_33,
    signRow 15 0b000000000011000 .DCT1__0_32,
    signRow 15 0b000000000011001 .DCT1__1_14,
    signRow 15 0b000000000011010 .DCT1__1_13,
    signRow 15 0b000000000011011 .DCT1__1_12,
    signRow 15 0b000000000011100 .DCT1__1_11,
    signRow 15 0b000000000011101 .DCT1__1_10,
    signRow 15 0b000000000011110 .DCT1__1_9 ]

/-- Table DCT1 (R242, table B-15), part 5. -/
def dct1Table5 : List VlcRow :=
  [ signRow 15 0b000000000011111 .DCT1__1_8,
    signRow 16 0b0000000000010000 .DCT1__1_18,
    signRow 16 0b0000000000010001 .DCT1__1_17,
    signRow 16 0b0000000000010010 .DCT1__1_16,
    signRow 16 0b0000000000010011 .DCT1__1_15,
    signRow 16 0b0000000000010100 .DCT1__6_3,
    signRow 16 0b0000000000010101 .DCT1__16_2,
    signRow 16 0b0000000000010110 .DCT1__15_2,
    signRow 16 0b0000000000010111 .DCT1__14_2,
    signRow 16 0b0000000000011000 .DCT1__13_2,
    signRow 16 0b0000000000011001 .DCT1__12_2,
    signRow 16 0b0000000000011010 .DCT1__11_2,
    signRow 16 0b0000000000011011 .DCT1__31_1,
    signRow 16 0b0000000000011100 .DCT1__30_1,
    signRow 16 0b0000000000011101 .DCT1__29_1,
    signRow 16 0b0000000000011110 .DCT1__28_1,
    signRow 16 0b0000000000011111 .DCT1__27_1 ]

/-- Table DCT1 (R242, table B-15). -/
def dct1Table : List VlcRow := dct1Table1 ++ dct1Table2 ++ dct1Table3 ++ dct1Table4 ++ dct1Table5

-- ---------------------------------------------------------------- header layouts

/-- The start code whose code byte is `c` (R152). -/
def startCodeOf (c : Byte) : Instr :=
  if c = 0x00 then .picture_start_code
  else if isSliceCode c then .slice_start_code c
  else if c = 0xB0 then .reserved_B0
  else if c = 0xB1 then .reserved_B1
  else if c = 0xB2 then .user_data_start_code
  else if c = 0xB3 then .sequence_header_code
  else if c = 0xB4 then .sequence_error_code
  else if c = 0xB5 then .extension_start_code
  else if c = 0xB6 then .reserved_B6
  else if c = 0xB7 then .sequence_end_code
  else if c = 0xB8 then .group_start_code
  else .system_start_code c

/-- The extension whose identifier is `id` (R163). -/
def extensionOf (id : BitVec 4) : Instr :=
  match id.toNat with
  | 0 => .extension_id_0_reserved
  | 1 => .extension_id_1_sequence_extension
  | 2 => .extension_id_2_sequence_display_extension
  | 3 => .extension_id_3_quant_matrix_extension
  | 4 => .extension_id_4_copyright_extension
  | 5 => .extension_id_5_sequence_scalable_extension
  | 6 => .extension_id_6_reserved
  | 7 => .extension_id_7_picture_display_extension
  | 8 => .extension_id_8_picture_coding_extension
  | 9 => .extension_id_9_picture_spatial_scalable_extension
  | 10 => .extension_id_10_picture_temporal_scalable_extension
  | 11 => .extension_id_11_camera_parameters_extension
  | 12 => .extension_id_12_itu_t_extension
  | 13 => .extension_id_13_reserved
  | 14 => .extension_id_14_reserved
  | _ => .extension_id_15_reserved

/-- Sequence header layout (R153). -/
def readSequenceHeader (rd : Nat → Bool) : Instr :=
  let intra := readMatrix rd 62
  .sequence_header_fields (bv rd 0 12) (bv rd 12 12) (bv rd 24 4) (bv rd 28 4) (bv rd 32 18) (rd 50) (bv rd 51 10)
    (rd 61) intra (readMatrix rd (62 + matrixLen intra))

/-- Sequence extension layout (R153). Bits 0 to 3 are the identifier, already read (R310); they are not read again. -/
def readSequenceExtension (rd : Nat → Bool) : Instr :=
  .sequence_extension_fields (bv rd 4 8) (rd 12) (bv rd 13 2) (bv rd 15 2) (bv rd 17 2) (bv rd 19 12) (rd 31)
    (bv rd 32 8) (rd 40) (bv rd 41 2) (bv rd 43 5)

/-- Quant matrix extension layout (R306), after the identifier. -/
def readQuantMatrix (rd : Nat → Bool) : Instr :=
  let a := readMatrix rd 4
  let pb := 4 + matrixLen a
  let b := readMatrix rd pb
  let pc := pb + matrixLen b
  let c := readMatrix rd pc
  .quant_matrix_extension_fields a b c (readMatrix rd (pc + matrixLen c))

/-- Picture coding extension layout (R153), after the identifier. -/
def readPictureCodingExtension (rd : Nat → Bool) : Instr :=
  .picture_coding_extension_fields (bv rd 4 4) (bv rd 8 4) (bv rd 12 4) (bv rd 16 4) (bv rd 20 2) (bv rd 22 2)
    (rd 24) (rd 25) (rd 26) (rd 27) (rd 28) (rd 29) (rd 30) (rd 31) (rd 32)
    (if rd 33 then some ⟨rd 34, bv rd 35 3, rd 38, bv rd 39 7, bv rd 46 8⟩ else none)

/-- Picture header layout (R153, R320): the coding type selects which fields follow. -/
def readPictureHeader (rd : Nat → Bool) (fuel : Nat) : Instr :=
  let tr := bv rd 0 10
  let ct := bv rd 10 3
  let vd := bv rd 13 16
  if ct = 1 then .picture_header_I_fields tr vd (readChain rd fuel 29)
  else if ct = 2 then .picture_header_P_fields tr vd (rd 29) (bv rd 30 3) (readChain rd fuel 33)
  else if ct = 3 then
    .picture_header_B_fields tr vd (rd 29) (bv rd 30 3) (rd 33) (bv rd 34 3) (readChain rd fuel 37)
  else .picture_header_other_type_fields tr ct vd (readChain rd fuel 29)

/-- Slice header layout (R153, R340). A forbidden quantiser code of 0 raises Corrupt before the flag after it is read. -/
def readSliceHeader (rd : Nat → Bool) (fuel : Nat) : Instr :=
  let q := bv rd 0 5
  if q = 0 then .slice_header_fields__no_intra_slice q
  else if rd 5 then .slice_header_fields__intra_slice q (bv rd 6 8) (readChain rd fuel 14)
  else .slice_header_fields__no_intra_slice q

-- ---------------------------------------------------------------- the decoder

/-- The instruction at the bits `rd` in context `c`, or `none` for an invalid code (R231). `fuel` bounds an
extra-information chain. -/
def decode (c : DecCtx) (rd : Nat → Bool) (fuel : Nat) : Option Instr :=
  match c with
  | .startCode => some (startCodeOf (bv rd 24 8))
  | .extId => some (extensionOf (bv rd 0 4))
  | .seqHeader => some (readSequenceHeader rd)
  | .seqExt => some (readSequenceExtension rd)
  | .quantMatrix => some (readQuantMatrix rd)
  | .picCodingExt => some (readPictureCodingExtension rd)
  | .gop => some (.group_of_pictures_fields (bv rd 0 25) (rd 25) (rd 26))
  | .picHeader => some (readPictureHeader rd fuel)
  | .sliceHeader => some (readSliceHeader rd fuel)
  | .frameMotionType => some (.frame_motion_type (bv rd 0 2))
  | .dctType => some (.dct_type (rd 0))
  | .mbQuant => some (.macroblock_quantiser_scale_code (bv rd 0 5))
  | .fieldSelect => some (.motion_vertical_field_select (rd 0))
  | .marker => some (.concealment_marker_bit (rd 0))
  | .dcDiff size => some (.dct_dc_differential size (fld rd 0 size))
  | .mba => lookupVlc mbaTable rd
  | .mbTypeI => lookupVlc mbTypeITable rd
  | .mbTypeP => lookupVlc mbTypePTable rd
  | .mbTypeB => lookupVlc mbTypeBTable rd
  | .cbp => lookupVlc cbpTable rd
  | .mv => lookupVlc mvTable rd
  | .dcl => lookupVlc dclTable rd
  | .dcc => lookupVlc dccTable rd
  | .dct0 => lookupVlc dct0Table rd
  | .dct0First => lookupVlc dct0FirstTable rd
  | .dct1 => lookupVlc dct1Table rd

-- ---------------------------------------------------------------- the encoder

/-- A start code: the prefix 0x000001 and the code byte (R151). -/
def startCodeBits (c : Byte) : List Bool := natBits 24 1 ++ bvBits c

/-- The bytes of a list, in order. -/
def bytesBits (l : List Byte) : List Bool := l.flatMap bvBits

/-- A load flag and its matrix (R153). -/
def matrixBits : Option (List Byte) → List Bool
  | none => [false]
  | some m => true :: bytesBits m

/-- An extra-information chain: a 1 flag before each payload byte, then a 0 (R321). -/
def chainBits : List Byte → List Bool
  | [] => [false]
  | b :: l => true :: bvBits b ++ chainBits l

/-- composite_display_flag and the 20 bits it announces (R330). -/
def compositeBits : Option CompositeDisplay → List Bool
  | none => [false]
  | some d => true :: [d.v_axis] ++ bvBits d.field_sequence ++ [d.sub_carrier] ++ bvBits d.burst_amplitude
      ++ bvBits d.sub_carrier_phase

/-- A code word and the sign bit after it. -/
def signBits (len code : Nat) (s : Bool) : List Bool := natBits len code ++ [s]

/-- An escape code word, its run and its level (R243). -/
def escBits (len code : Nat) (run : BitVec 6) (level : BitVec 12) : List Bool :=
  natBits len code ++ bvBits run ++ bvBits level

/-- The bits of an instruction, in stream order, from the encoding column of spec/opcode_table.json and the layouts of
30_encoding.md. -/
def encode : Instr → List Bool
  | .picture_start_code => startCodeBits 0x00
  | .slice_start_code v => startCodeBits v
  | .reserved_B0 => startCodeBits 0xB0
  | .reserved_B1 => startCodeBits 0xB1
  | .reserved_B6 => startCodeBits 0xB6
  | .user_data_start_code => startCodeBits 0xB2
  | .sequence_header_code => startCodeBits 0xB3
  | .sequence_error_code => startCodeBits 0xB4
  | .extension_start_code => startCodeBits 0xB5
  | .sequence_end_code => startCodeBits 0xB7
  | .group_start_code => startCodeBits 0xB8
  | .system_start_code c => startCodeBits c
  | .extension_id_0_reserved => natBits 4 0
  | .extension_id_1_sequence_extension => natBits 4 1
  | .extension_id_2_sequence_display_extension => natBits 4 2
  | .extension_id_3_quant_matrix_extension => natBits 4 3
  | .extension_id_4_copyright_extension => natBits 4 4
  | .extension_id_5_sequence_scalable_extension => natBits 4 5
  | .extension_id_6_reserved => natBits 4 6
  | .extension_id_7_picture_display_extension => natBits 4 7
  | .extension_id_8_picture_coding_extension => natBits 4 8
  | .extension_id_9_picture_spatial_scalable_extension => natBits 4 9
  | .extension_id_10_picture_temporal_scalable_extension => natBits 4 10
  | .extension_id_11_camera_parameters_extension => natBits 4 11
  | .extension_id_12_itu_t_extension => natBits 4 12
  | .extension_id_13_reserved => natBits 4 13
  | .extension_id_14_reserved => natBits 4 14
  | .extension_id_15_reserved => natBits 4 15
  | .sequence_header_fields hs vs ar fr br mk vbv cp intra nonIntra =>
      bvBits hs ++ bvBits vs ++ bvBits ar ++ bvBits fr ++ bvBits br ++ [mk] ++ bvBits vbv ++ [cp]
      ++ matrixBits intra ++ matrixBits nonIntra
  | .sequence_extension_fields pl prog cf hx vx bx mk vbvx ld fn fd =>
      natBits 4 1 ++ bvBits pl ++ [prog] ++ bvBits cf ++ bvBits hx ++ bvBits vx ++ bvBits bx ++ [mk]
      ++ bvBits vbvx ++ [ld] ++ bvBits fn ++ bvBits fd
  | .quant_matrix_extension_fields a b c d =>
      natBits 4 3 ++ matrixBits a ++ matrixBits b ++ matrixBits c ++ matrixBits d
  | .picture_coding_extension_fields f00 f01 f10 f11 dcp ps tff fpfd cmv qst ivf alt rff c420 pf cd =>
      natBits 4 8 ++ bvBits f00 ++ bvBits f01 ++ bvBits f10 ++ bvBits f11 ++ bvBits dcp ++ bvBits ps
      ++ [tff, fpfd, cmv, qst, ivf, alt, rff, c420, pf] ++ compositeBits cd
  | .group_of_pictures_fields tc cg bl => bvBits tc ++ [cg, bl]
  | .picture_header_I_fields tr vd extra => bvBits tr ++ natBits 3 1 ++ bvBits vd ++ chainBits extra
  | .picture_header_P_fields tr vd fpf ff extra =>
      bvBits tr ++ natBits 3 2 ++ bvBits vd ++ [fpf] ++ bvBits ff ++ chainBits extra
  | .picture_header_B_fields tr vd fpf ff fpb bf extra =>
      bvBits tr ++ natBits 3 3 ++ bvBits vd ++ [fpf] ++ bvBits ff ++ [fpb] ++ bvBits bf
      ++ chainBits extra
  | .picture_header_other_type_fields tr ct vd extra => bvBits tr ++ bvBits ct ++ bvBits vd ++ chainBits extra
  | .slice_header_fields__no_intra_slice q => bvBits q ++ [false]
  | .slice_header_fields__intra_slice q i extra => bvBits q ++ [true] ++ bvBits i ++ chainBits extra
  | .frame_motion_type m => bvBits m
  | .dct_type t => [t]
  | .macroblock_quantiser_scale_code q => bvBits q
  | .motion_vertical_field_select f => [f]
  | .concealment_marker_bit b => [b]
  | .dct_dc_differential size v => natBits size v
  | .MBA_1 => natBits 1 0b1
  | .MBA_3 => natBits 3 0b010
  | .MBA_2 => natBits 3 0b011
  | .MBA_5 => natBits 4 0b0010
  | .MBA_4 => natBits 4 0b0011
  | .MBA_7 => natBits 5 0b00010
  | .MBA_6 => natBits 5 0b00011
  | .MBA_9 => natBits 7 0b0000110
  | .MBA_8 => natBits 7 0b0000111
  | .MBA_15 => natBits 8 0b00000110
  | .MBA_14 => natBits 8 0b00000111
  | .MBA_13 => natBits 8 0b00001000
  | .MBA_12 => natBits 8 0b00001001
  | .MBA_11 => natBits 8 0b00001010
  | .MBA_10 => natBits 8 0b00001011
  | .MBA_21 => natBits 10 0b0000010010
  | .MBA_20 => natBits 10 0b0000010011
  | .MBA_19 => natBits 10 0b0000010100
  | .MBA_18 => natBits 10 0b0000010101
  | .MBA_17 => natBits 10 0b0000010110
  | .MBA_16 => natBits 10 0b0000010111
  | .MBA_ESC => natBits 11 0b00000001000
  | .MBA_33 => natBits 11 0b00000011000
  | .MBA_32 => natBits 11 0b00000011001
  | .MBA_31 => natBits 11 0b00000011010
  | .MBA_30 => natBits 11 0b00000011011
  | .MBA_29 => natBits 11 0b00000011100
  | .MBA_28 => natBits 11 0b00000011101
  | .MBA_27 => natBits 11 0b00000011110
  | .MBA_26 => natBits 11 0b00000011111
  | .MBA_25 => natBits 11 0b00000100000
  | .MBA_24 => natBits 11 0b00000100001
  | .MBA_23 => natBits 11 0b00000100010
  | .MBA_22 => natBits 11 0b00000100011
  | .MBTYPE_I_I => natBits 1 0b1
  | .MBTYPE_I_Q_I => natBits 2 0b01
  | .MBTYPE_P_F_P => natBits 1 0b1
  | .MBTYPE_P_P => natBits 2 0b01
  | .MBTYPE_P_F => natBits 3 0b001
  | .MBTYPE_P_Q_P => natBits 5 0b00001
  | .MBTYPE_P_Q_F_P => natBits 5 0b00010
  | .MBTYPE_P_I => natBits 5 0b00011
  | .MBTYPE_P_Q_I => natBits 6 0b000001
  | .MBTYPE_B_F_B => natBits 2 0b10
  | .MBTYPE_B_F_B_P => natBits 2 0b11
  | .MBTYPE_B_B => natBits 3 0b010
  | .MBTYPE_B_B_P => natBits 3 0b011
  | .MBTYPE_B_F => natBits 4 0b0010
  | .MBTYPE_B_F_P => natBits 4 0b0011
  | .MBTYPE_B_Q_F_B_P => natBits 5 0b00010
  | .MBTYPE_B_I => natBits 5 0b00011
  | .MBTYPE_B_Q_I => natBits 6 0b000001
  | .MBTYPE_B_Q_B_P => natBits 6 0b000010
  | .MBTYPE_B_Q_F_P => natBits 6 0b000011
  | .CBP_60 => natBits 3 0b111
  | .CBP_32 => natBits 4 0b1010
  | .CBP_16 => natBits 4 0b1011
  | .CBP_8 => natBits 4 0b1100
  | .CBP_4 => natBits 4 0b1101
  | .CBP_62 => natBits 5 0b01000
  | .CBP_2 => natBits 5 0b01001
  | .CBP_61 => natBits 5 0b01010
  | .CBP_1 => natBits 5 0b01011
  | .CBP_56 => natBits 5 0b01100
  | .CBP_52 => natBits 5 0b01101
  | .CBP_44 => natBits 5 0b01110
  | .CBP_28 => natBits 5 0b01111
  | .CBP_40 => natBits 5 0b10000
  | .CBP_20 => natBits 5 0b10001
  | .CBP_48 => natBits 5 0b10010
  | .CBP_12 => natBits 5 0b10011
  | .CBP_63 => natBits 6 0b001100
  | .CBP_3 => natBits 6 0b001101
  | .CBP_36 => natBits 6 0b001110
  | .CBP_24 => natBits 6 0b001111
  | .CBP_34 => natBits 7 0b0010000
  | .CBP_18 => natBits 7 0b0010001
  | .CBP_10 => natBits 7 0b0010010
  | .CBP_6 => natBits 7 0b0010011
  | .CBP_33 => natBits 7 0b0010100
  | .CBP_17 => natBits 7 0b0010101
  | .CBP_9 => natBits 7 0b0010110
  | .CBP_5 => natBits 7 0b0010111
  | .CBP_58 => natBits 8 0b00000100
  | .CBP_54 => natBits 8 0b00000101
  | .CBP_46 => natBits 8 0b00000110
  | .CBP_30 => natBits 8 0b00000111
  | .CBP_57 => natBits 8 0b00001000
  | .CBP_53 => natBits 8 0b00001001
  | .CBP_45 => natBits 8 0b00001010
  | .CBP_29 => natBits 8 0b00001011
  | .CBP_38 => natBits 8 0b00001100
  | .CBP_26 => natBits 8 0b00001101
  | .CBP_37 => natBits 8 0b00001110
  | .CBP_25 => natBits 8 0b00001111
  | .CBP_43 => natBits 8 0b00010000
  | .CBP_23 => natBits 8 0b00010001
  | .CBP_51 => natBits 8 0b00010010
  | .CBP_15 => natBits 8 0b00010011
  | .CBP_42 => natBits 8 0b00010100
  | .CBP_22 => natBits 8 0b00010101
  | .CBP_50 => natBits 8 0b00010110
  | .CBP_14 => natBits 8 0b00010111
  | .CBP_41 => natBits 8 0b00011000
  | .CBP_21 => natBits 8 0b00011001
  | .CBP_49 => natBits 8 0b00011010
  | .CBP_13 => natBits 8 0b00011011
  | .CBP_35 => natBits 8 0b00011100
  | .CBP_19 => natBits 8 0b00011101
  | .CBP_11 => natBits 8 0b00011110
  | .CBP_7 => natBits 8 0b00011111
  | .CBP_0 => natBits 9 0b000000001
  | .CBP_39 => natBits 9 0b000000010
  | .CBP_27 => natBits 9 0b000000011
  | .CBP_59 => natBits 9 0b000000100
  | .CBP_55 => natBits 9 0b000000101
  | .CBP_47 => natBits 9 0b000000110
  | .CBP_31 => natBits 9 0b000000111
  | .MV_0 => natBits 1 0b1
  | .MV_1 => natBits 2 0b01
  | .MV_2 => natBits 3 0b001
  | .MV_3 => natBits 4 0b0001
  | .MV_4 => natBits 6 0b000011
  | .MV_7 => natBits 7 0b0000011
  | .MV_6 => natBits 7 0b0000100
  | .MV_5 => natBits 7 0b0000101
  | .MV_10 => natBits 9 0b000001001
  | .MV_9 => natBits 9 0b000001010
  | .MV_8 => natBits 9 0b000001011
  | .MV_16 => natBits 10 0b0000001100
  | .MV_15 => natBits 10 0b0000001101
  | .MV_14 => natBits 10 0b0000001110
  | .MV_13 => natBits 10 0b0000001111
  | .MV_12 => natBits 10 0b0000010000
  | .MV_11 => natBits 10 0b0000010001
  | .DCL_1 => natBits 2 0b00
  | .DCL_2 => natBits 2 0b01
  | .DCL_0 => natBits 3 0b100
  | .DCL_3 => natBits 3 0b101
  | .DCL_4 => natBits 3 0b110
  | .DCL_5 => natBits 4 0b1110
  | .DCL_6 => natBits 5 0b11110
  | .DCL_7 => natBits 6 0b111110
  | .DCL_8 => natBits 7 0b1111110
  | .DCL_9 => natBits 8 0b11111110
  | .DCL_10 => natBits 9 0b111111110
  | .DCL_11 => natBits 9 0b111111111
  | .DCC_0 => natBits 2 0b00
  | .DCC_1 => natBits 2 0b01
  | .DCC_2 => natBits 2 0b10
  | .DCC_3 => natBits 3 0b110
  | .DCC_4 => natBits 4 0b1110
  | .DCC_5 => natBits 5 0b11110
  | .DCC_6 => natBits 6 0b111110
  | .DCC_7 => natBits 7 0b1111110
  | .DCC_8 => natBits 8 0b11111110
  | .DCC_9 => natBits 9 0b111111110
  | .DCC_10 => natBits 10 0b1111111110
  | .DCC_11 => natBits 10 0b1111111111
  | .DCT0_EOB => natBits 2 0b10
  | .DCT0__0_1 s => signBits 2 0b11 s
  | .DCT0__1_1 s => signBits 3 0b011 s
  | .DCT0__0_2 s => signBits 4 0b0100 s
  | .DCT0__2_1 s => signBits 4 0b0101 s
  | .DCT0__0_3 s => signBits 5 0b00101 s
  | .DCT0__4_1 s => signBits 5 0b00110 s
  | .DCT0__3_1 s => signBits 5 0b00111 s
  | .DCT0_ESC run level => escBits 6 0b000001 run level
  | .DCT0__7_1 s => signBits 6 0b000100 s
  | .DCT0__6_1 s => signBits 6 0b000101 s
  | .DCT0__1_2 s => signBits 6 0b000110 s
  | .DCT0__5_1 s => signBits 6 0b000111 s
  | .DCT0__2_2 s => signBits 7 0b0000100 s
  | .DCT0__9_1 s => signBits 7 0b0000101 s
  | .DCT0__0_4 s => signBits 7 0b0000110 s
  | .DCT0__8_1 s => signBits 7 0b0000111 s
  | .DCT0__13_1 s => signBits 8 0b00100000 s
  | .DCT0__0_6 s => signBits 8 0b00100001 s
  | .DCT0__12_1 s => signBits 8 0b00100010 s
  | .DCT0__11_1 s => signBits 8 0b00100011 s
  | .DCT0__3_2 s => signBits 8 0b00100100 s
  | .DCT0__1_3 s => signBits 8 0b00100101 s
  | .DCT0__0_5 s => signBits 8 0b00100110 s
  | .DCT0__10_1 s => signBits 8 0b00100111 s
  | .DCT0__16_1 s => signBits 10 0b0000001000 s
  | .DCT0__5_2 s => signBits 10 0b0000001001 s
  | .DCT0__0_7 s => signBits 10 0b0000001010 s
  | .DCT0__2_3 s => signBits 10 0b0000001011 s
  | .DCT0__1_4 s => signBits 10 0b0000001100 s
  | .DCT0__15_1 s => signBits 10 0b0000001101 s
  | .DCT0__14_1 s => signBits 10 0b0000001110 s
  | .DCT0__4_2 s => signBits 10 0b0000001111 s
  | .DCT0__0_11 s => signBits 12 0b000000010000 s
  | .DCT0__8_2 s => signBits 12 0b000000010001 s
  | .DCT0__4_3 s => signBits 12 0b000000010010 s
  | .DCT0__0_10 s => signBits 12 0b000000010011 s
  | .DCT0__2_4 s => signBits 12 0b000000010100 s
  | .DCT0__7_2 s => signBits 12 0b000000010101 s
  | .DCT0__21_1 s => signBits 12 0b000000010110 s
  | .DCT0__20_1 s => signBits 12 0b000000010111 s
  | .DCT0__0_9 s => signBits 12 0b000000011000 s
  | .DCT0__19_1 s => signBits 12 0b000000011001 s
  | .DCT0__18_1 s => signBits 12 0b000000011010 s
  | .DCT0__1_5 s => signBits 12 0b000000011011 s
  | .DCT0__3_3 s => signBits 12 0b000000011100 s
  | .DCT0__0_8 s => signBits 12 0b000000011101 s
  | .DCT0__6_2 s => signBits 12 0b000000011110 s
  | .DCT0__17_1 s => signBits 12 0b000000011111 s
  | .DCT0__10_2 s => signBits 13 0b0000000010000 s
  | .DCT0__9_2 s => signBits 13 0b0000000010001 s
  | .DCT0__5_3 s => signBits 13 0b0000000010010 s
  | .DCT0__3_4 s => signBits 13 0b0000000010011 s
  | .DCT0__2_5 s => signBits 13 0b0000000010100 s
  | .DCT0__1_7 s => signBits 13 0b0000000010101 s
  | .DCT0__1_6 s => signBits 13 0b0000000010110 s
  | .DCT0__0_15 s => signBits 13 0b0000000010111 s
  | .DCT0__0_14 s => signBits 13 0b0000000011000 s
  | .DCT0__0_13 s => signBits 13 0b0000000011001 s
  | .DCT0__0_12 s => signBits 13 0b0000000011010 s
  | .DCT0__26_1 s => signBits 13 0b0000000011011 s
  | .DCT0__25_1 s => signBits 13 0b0000000011100 s
  | .DCT0__24_1 s => signBits 13 0b0000000011101 s
  | .DCT0__23_1 s => signBits 13 0b0000000011110 s
  | .DCT0__22_1 s => signBits 13 0b0000000011111 s
  | .DCT0__0_31 s => signBits 14 0b00000000010000 s
  | .DCT0__0_30 s => signBits 14 0b00000000010001 s
  | .DCT0__0_29 s => signBits 14 0b00000000010010 s
  | .DCT0__0_28 s => signBits 14 0b00000000010011 s
  | .DCT0__0_27 s => signBits 14 0b00000000010100 s
  | .DCT0__0_26 s => signBits 14 0b00000000010101 s
  | .DCT0__0_25 s => signBits 14 0b00000000010110 s
  | .DCT0__0_24 s => signBits 14 0b00000000010111 s
  | .DCT0__0_23 s => signBits 14 0b00000000011000 s
  | .DCT0__0_22 s => signBits 14 0b00000000011001 s
  | .DCT0__0_21 s => signBits 14 0b00000000011010 s
  | .DCT0__0_20 s => signBits 14 0b00000000011011 s
  | .DCT0__0_19 s => signBits 14 0b00000000011100 s
  | .DCT0__0_18 s => signBits 14 0b00000000011101 s
  | .DCT0__0_17 s => signBits 14 0b00000000011110 s
  | .DCT0__0_16 s => signBits 14 0b00000000011111 s
  | .DCT0__0_40 s => signBits 15 0b000000000010000 s
  | .DCT0__0_39 s => signBits 15 0b000000000010001 s
  | .DCT0__0_38 s => signBits 15 0b000000000010010 s
  | .DCT0__0_37 s => signBits 15 0b000000000010011 s
  | .DCT0__0_36 s => signBits 15 0b000000000010100 s
  | .DCT0__0_35 s => signBits 15 0b000000000010101 s
  | .DCT0__0_34 s => signBits 15 0b000000000010110 s
  | .DCT0__0_33 s => signBits 15 0b000000000010111 s
  | .DCT0__0_32 s => signBits 15 0b000000000011000 s
  | .DCT0__1_14 s => signBits 15 0b000000000011001 s
  | .DCT0__1_13 s => signBits 15 0b000000000011010 s
  | .DCT0__1_12 s => signBits 15 0b000000000011011 s
  | .DCT0__1_11 s => signBits 15 0b000000000011100 s
  | .DCT0__1_10 s => signBits 15 0b000000000011101 s
  | .DCT0__1_9 s => signBits 15 0b000000000011110 s
  | .DCT0__1_8 s => signBits 15 0b000000000011111 s
  | .DCT0__1_18 s => signBits 16 0b0000000000010000 s
  | .DCT0__1_17 s => signBits 16 0b0000000000010001 s
  | .DCT0__1_16 s => signBits 16 0b0000000000010010 s
  | .DCT0__1_15 s => signBits 16 0b0000000000010011 s
  | .DCT0__6_3 s => signBits 16 0b0000000000010100 s
  | .DCT0__16_2 s => signBits 16 0b0000000000010101 s
  | .DCT0__15_2 s => signBits 16 0b0000000000010110 s
  | .DCT0__14_2 s => signBits 16 0b0000000000010111 s
  | .DCT0__13_2 s => signBits 16 0b0000000000011000 s
  | .DCT0__12_2 s => signBits 16 0b0000000000011001 s
  | .DCT0__11_2 s => signBits 16 0b0000000000011010 s
  | .DCT0__31_1 s => signBits 16 0b0000000000011011 s
  | .DCT0__30_1 s => signBits 16 0b0000000000011100 s
  | .DCT0__29_1 s => signBits 16 0b0000000000011101 s
  | .DCT0__28_1 s => signBits 16 0b0000000000011110 s
  | .DCT0__27_1 s => signBits 16 0b0000000000011111 s
  | .DCT0_FIRST__0_1 s => signBits 1 0b1 s
  | .DCT1__0_1 s => signBits 2 0b10 s
  | .DCT1__1_1 s => signBits 3 0b010 s
  | .DCT1__0_2 s => signBits 3 0b110 s
  | .DCT1_EOB => natBits 4 0b0110
  | .DCT1__0_3 s => signBits 4 0b0111 s
  | .DCT1__2_1 s => signBits 5 0b00101 s
  | .DCT1__1_2 s => signBits 5 0b00110 s
  | .DCT1__3_1 s => signBits 5 0b00111 s
  | .DCT1__0_4 s => signBits 5 0b11100 s
  | .DCT1__0_5 s => signBits 5 0b11101 s
  | .DCT1_ESC run level => escBits 6 0b000001 run level
  | .DCT1__0_7 s => signBits 6 0b000100 s
  | .DCT1__0_6 s => signBits 6 0b000101 s
  | .DCT1__4_1 s => signBits 6 0b000110 s
  | .DCT1__5_1 s => signBits 6 0b000111 s
  | .DCT1__7_1 s => signBits 7 0b0000100 s
  | .DCT1__8_1 s => signBits 7 0b0000101 s
  | .DCT1__6_1 s => signBits 7 0b0000110 s
  | .DCT1__2_2 s => signBits 7 0b0000111 s
  | .DCT1__9_1 s => signBits 7 0b1111000 s
  | .DCT1__1_3 s => signBits 7 0b1111001 s
  | .DCT1__10_1 s => signBits 7 0b1111010 s
  | .DCT1__0_8 s => signBits 7 0b1111011 s
  | .DCT1__0_9 s => signBits 7 0b1111100 s
  | .DCT1__1_5 s => signBits 8 0b00100000 s
  | .DCT1__11_1 s => signBits 8 0b00100001 s
  | .DCT1__0_11 s => signBits 8 0b00100010 s
  | .DCT1__0_10 s => signBits 8 0b00100011 s
  | .DCT1__13_1 s => signBits 8 0b00100100 s
  | .DCT1__12_1 s => signBits 8 0b00100101 s
  | .DCT1__3_2 s => signBits 8 0b00100110 s
  | .DCT1__1_4 s => signBits 8 0b00100111 s
  | .DCT1__0_12 s => signBits 8 0b11111010 s
  | .DCT1__0_13 s => signBits 8 0b11111011 s
  | .DCT1__2_3 s => signBits 8 0b11111100 s
  | .DCT1__4_2 s => signBits 8 0b11111101 s
  | .DCT1__0_14 s => signBits 8 0b11111110 s
  | .DCT1__0_15 s => signBits 8 0b11111111 s
  | .DCT1__5_2 s => signBits 9 0b000000100 s
  | .DCT1__14_1 s => signBits 9 0b000000101 s
  | .DCT1__15_1 s => signBits 9 0b000000111 s
  | .DCT1__2_4 s => signBits 10 0b0000001100 s
  | .DCT1__16_1 s => signBits 10 0b0000001101 s
  | .DCT1__8_2 s => signBits 12 0b000000010001 s
  | .DCT1__4_3 s => signBits 12 0b000000010010 s
  | .DCT1__7_2 s => signBits 12 0b000000010101 s
  | .DCT1__21_1 s => signBits 12 0b000000010110 s
  | .DCT1__20_1 s => signBits 12 0b000000010111 s
  | .DCT1__19_1 s => signBits 12 0b000000011001 s
  | .DCT1__18_1 s => signBits 12 0b000000011010 s
  | .DCT1__3_3 s => signBits 12 0b000000011100 s
  | .DCT1__6_2 s => signBits 12 0b000000011110 s
  | .DCT1__17_1 s => signBits 12 0b000000011111 s
  | .DCT1__10_2 s => signBits 13 0b0000000010000 s
  | .DCT1__9_2 s => signBits 13 0b0000000010001 s
  | .DCT1__5_3 s => signBits 13 0b0000000010010 s
  | .DCT1__3_4 s => signBits 13 0b0000000010011 s
  | .DCT1__2_5 s => signBits 13 0b0000000010100 s
  | .DCT1__1_7 s => signBits 13 0b0000000010101 s
  | .DCT1__1_6 s => signBits 13 0b0000000010110 s
  | .DCT1__26_1 s => signBits 13 0b0000000011011 s
  | .DCT1__25_1 s => signBits 13 0b0000000011100 s
  | .DCT1__24_1 s => signBits 13 0b0000000011101 s
  | .DCT1__23_1 s => signBits 13 0b0000000011110 s
  | .DCT1__22_1 s => signBits 13 0b0000000011111 s
  | .DCT1__0_31 s => signBits 14 0b00000000010000 s
  | .DCT1__0_30 s => signBits 14 0b00000000010001 s
  | .DCT1__0_29 s => signBits 14 0b00000000010010 s
  | .DCT1__0_28 s => signBits 14 0b00000000010011 s
  | .DCT1__0_27 s => signBits 14 0b00000000010100 s
  | .DCT1__0_26 s => signBits 14 0b00000000010101 s
  | .DCT1__0_25 s => signBits 14 0b00000000010110 s
  | .DCT1__0_24 s => signBits 14 0b00000000010111 s
  | .DCT1__0_23 s => signBits 14 0b00000000011000 s
  | .DCT1__0_22 s => signBits 14 0b00000000011001 s
  | .DCT1__0_21 s => signBits 14 0b00000000011010 s
  | .DCT1__0_20 s => signBits 14 0b00000000011011 s
  | .DCT1__0_19 s => signBits 14 0b00000000011100 s
  | .DCT1__0_18 s => signBits 14 0b00000000011101 s
  | .DCT1__0_17 s => signBits 14 0b00000000011110 s
  | .DCT1__0_16 s => signBits 14 0b00000000011111 s
  | .DCT1__0_40 s => signBits 15 0b000000000010000 s
  | .DCT1__0_39 s => signBits 15 0b000000000010001 s
  | .DCT1__0_38 s => signBits 15 0b000000000010010 s
  | .DCT1__0_37 s => signBits 15 0b000000000010011 s
  | .DCT1__0_36 s => signBits 15 0b000000000010100 s
  | .DCT1__0_35 s => signBits 15 0b000000000010101 s
  | .DCT1__0_34 s => signBits 15 0b000000000010110 s
  | .DCT1__0_33 s => signBits 15 0b000000000010111 s
  | .DCT1__0_32 s => signBits 15 0b000000000011000 s
  | .DCT1__1_14 s => signBits 15 0b000000000011001 s
  | .DCT1__1_13 s => signBits 15 0b000000000011010 s
  | .DCT1__1_12 s => signBits 15 0b000000000011011 s
  | .DCT1__1_11 s => signBits 15 0b000000000011100 s
  | .DCT1__1_10 s => signBits 15 0b000000000011101 s
  | .DCT1__1_9 s => signBits 15 0b000000000011110 s
  | .DCT1__1_8 s => signBits 15 0b000000000011111 s
  | .DCT1__1_18 s => signBits 16 0b0000000000010000 s
  | .DCT1__1_17 s => signBits 16 0b0000000000010001 s
  | .DCT1__1_16 s => signBits 16 0b0000000000010010 s
  | .DCT1__1_15 s => signBits 16 0b0000000000010011 s
  | .DCT1__6_3 s => signBits 16 0b0000000000010100 s
  | .DCT1__16_2 s => signBits 16 0b0000000000010101 s
  | .DCT1__15_2 s => signBits 16 0b0000000000010110 s
  | .DCT1__14_2 s => signBits 16 0b0000000000010111 s
  | .DCT1__13_2 s => signBits 16 0b0000000000011000 s
  | .DCT1__12_2 s => signBits 16 0b0000000000011001 s
  | .DCT1__11_2 s => signBits 16 0b0000000000011010 s
  | .DCT1__31_1 s => signBits 16 0b0000000000011011 s
  | .DCT1__30_1 s => signBits 16 0b0000000000011100 s
  | .DCT1__29_1 s => signBits 16 0b0000000000011101 s
  | .DCT1__28_1 s => signBits 16 0b0000000000011110 s
  | .DCT1__27_1 s => signBits 16 0b0000000000011111 s

/-- Whether an instruction is an element of a decoding context (R246, R300, R310, R320, R340). -/
def Instr.inCtx (i : Instr) (c : DecCtx) : Bool :=
  match i with
  | .picture_start_code => c == .startCode
  | .slice_start_code _ => c == .startCode
  | .reserved_B0 => c == .startCode
  | .reserved_B1 => c == .startCode
  | .reserved_B6 => c == .startCode
  | .user_data_start_code => c == .startCode
  | .sequence_header_code => c == .startCode
  | .sequence_error_code => c == .startCode
  | .extension_start_code => c == .startCode
  | .sequence_end_code => c == .startCode
  | .group_start_code => c == .startCode
  | .system_start_code _ => c == .startCode
  | .extension_id_0_reserved => c == .extId
  | .extension_id_1_sequence_extension => c == .extId
  | .extension_id_2_sequence_display_extension => c == .extId
  | .extension_id_3_quant_matrix_extension => c == .extId
  | .extension_id_4_copyright_extension => c == .extId
  | .extension_id_5_sequence_scalable_extension => c == .extId
  | .extension_id_6_reserved => c == .extId
  | .extension_id_7_picture_display_extension => c == .extId
  | .extension_id_8_picture_coding_extension => c == .extId
  | .extension_id_9_picture_spatial_scalable_extension => c == .extId
  | .extension_id_10_picture_temporal_scalable_extension => c == .extId
  | .extension_id_11_camera_parameters_extension => c == .extId
  | .extension_id_12_itu_t_extension => c == .extId
  | .extension_id_13_reserved => c == .extId
  | .extension_id_14_reserved => c == .extId
  | .extension_id_15_reserved => c == .extId
  | .sequence_header_fields _ _ _ _ _ _ _ _ _ _ => c == .seqHeader
  | .sequence_extension_fields _ _ _ _ _ _ _ _ _ _ _ => c == .seqExt
  | .quant_matrix_extension_fields _ _ _ _ => c == .quantMatrix
  | .picture_coding_extension_fields _ _ _ _ _ _ _ _ _ _ _ _ _ _ _ _ => c == .picCodingExt
  | .group_of_pictures_fields _ _ _ => c == .gop
  | .picture_header_I_fields _ _ _ => c == .picHeader
  | .picture_header_P_fields _ _ _ _ _ => c == .picHeader
  | .picture_header_B_fields _ _ _ _ _ _ _ => c == .picHeader
  | .picture_header_other_type_fields _ _ _ _ => c == .picHeader
  | .slice_header_fields__no_intra_slice _ => c == .sliceHeader
  | .slice_header_fields__intra_slice _ _ _ => c == .sliceHeader
  | .frame_motion_type _ => c == .frameMotionType
  | .dct_type _ => c == .dctType
  | .macroblock_quantiser_scale_code _ => c == .mbQuant
  | .motion_vertical_field_select _ => c == .fieldSelect
  | .concealment_marker_bit _ => c == .marker
  | .dct_dc_differential size _ => c == .dcDiff size
  | .MBA_1 => c == .mba
  | .MBA_3 => c == .mba
  | .MBA_2 => c == .mba
  | .MBA_5 => c == .mba
  | .MBA_4 => c == .mba
  | .MBA_7 => c == .mba
  | .MBA_6 => c == .mba
  | .MBA_9 => c == .mba
  | .MBA_8 => c == .mba
  | .MBA_15 => c == .mba
  | .MBA_14 => c == .mba
  | .MBA_13 => c == .mba
  | .MBA_12 => c == .mba
  | .MBA_11 => c == .mba
  | .MBA_10 => c == .mba
  | .MBA_21 => c == .mba
  | .MBA_20 => c == .mba
  | .MBA_19 => c == .mba
  | .MBA_18 => c == .mba
  | .MBA_17 => c == .mba
  | .MBA_16 => c == .mba
  | .MBA_ESC => c == .mba
  | .MBA_33 => c == .mba
  | .MBA_32 => c == .mba
  | .MBA_31 => c == .mba
  | .MBA_30 => c == .mba
  | .MBA_29 => c == .mba
  | .MBA_28 => c == .mba
  | .MBA_27 => c == .mba
  | .MBA_26 => c == .mba
  | .MBA_25 => c == .mba
  | .MBA_24 => c == .mba
  | .MBA_23 => c == .mba
  | .MBA_22 => c == .mba
  | .MBTYPE_I_I => c == .mbTypeI
  | .MBTYPE_I_Q_I => c == .mbTypeI
  | .MBTYPE_P_F_P => c == .mbTypeP
  | .MBTYPE_P_P => c == .mbTypeP
  | .MBTYPE_P_F => c == .mbTypeP
  | .MBTYPE_P_Q_P => c == .mbTypeP
  | .MBTYPE_P_Q_F_P => c == .mbTypeP
  | .MBTYPE_P_I => c == .mbTypeP
  | .MBTYPE_P_Q_I => c == .mbTypeP
  | .MBTYPE_B_F_B => c == .mbTypeB
  | .MBTYPE_B_F_B_P => c == .mbTypeB
  | .MBTYPE_B_B => c == .mbTypeB
  | .MBTYPE_B_B_P => c == .mbTypeB
  | .MBTYPE_B_F => c == .mbTypeB
  | .MBTYPE_B_F_P => c == .mbTypeB
  | .MBTYPE_B_Q_F_B_P => c == .mbTypeB
  | .MBTYPE_B_I => c == .mbTypeB
  | .MBTYPE_B_Q_I => c == .mbTypeB
  | .MBTYPE_B_Q_B_P => c == .mbTypeB
  | .MBTYPE_B_Q_F_P => c == .mbTypeB
  | .CBP_60 => c == .cbp
  | .CBP_32 => c == .cbp
  | .CBP_16 => c == .cbp
  | .CBP_8 => c == .cbp
  | .CBP_4 => c == .cbp
  | .CBP_62 => c == .cbp
  | .CBP_2 => c == .cbp
  | .CBP_61 => c == .cbp
  | .CBP_1 => c == .cbp
  | .CBP_56 => c == .cbp
  | .CBP_52 => c == .cbp
  | .CBP_44 => c == .cbp
  | .CBP_28 => c == .cbp
  | .CBP_40 => c == .cbp
  | .CBP_20 => c == .cbp
  | .CBP_48 => c == .cbp
  | .CBP_12 => c == .cbp
  | .CBP_63 => c == .cbp
  | .CBP_3 => c == .cbp
  | .CBP_36 => c == .cbp
  | .CBP_24 => c == .cbp
  | .CBP_34 => c == .cbp
  | .CBP_18 => c == .cbp
  | .CBP_10 => c == .cbp
  | .CBP_6 => c == .cbp
  | .CBP_33 => c == .cbp
  | .CBP_17 => c == .cbp
  | .CBP_9 => c == .cbp
  | .CBP_5 => c == .cbp
  | .CBP_58 => c == .cbp
  | .CBP_54 => c == .cbp
  | .CBP_46 => c == .cbp
  | .CBP_30 => c == .cbp
  | .CBP_57 => c == .cbp
  | .CBP_53 => c == .cbp
  | .CBP_45 => c == .cbp
  | .CBP_29 => c == .cbp
  | .CBP_38 => c == .cbp
  | .CBP_26 => c == .cbp
  | .CBP_37 => c == .cbp
  | .CBP_25 => c == .cbp
  | .CBP_43 => c == .cbp
  | .CBP_23 => c == .cbp
  | .CBP_51 => c == .cbp
  | .CBP_15 => c == .cbp
  | .CBP_42 => c == .cbp
  | .CBP_22 => c == .cbp
  | .CBP_50 => c == .cbp
  | .CBP_14 => c == .cbp
  | .CBP_41 => c == .cbp
  | .CBP_21 => c == .cbp
  | .CBP_49 => c == .cbp
  | .CBP_13 => c == .cbp
  | .CBP_35 => c == .cbp
  | .CBP_19 => c == .cbp
  | .CBP_11 => c == .cbp
  | .CBP_7 => c == .cbp
  | .CBP_0 => c == .cbp
  | .CBP_39 => c == .cbp
  | .CBP_27 => c == .cbp
  | .CBP_59 => c == .cbp
  | .CBP_55 => c == .cbp
  | .CBP_47 => c == .cbp
  | .CBP_31 => c == .cbp
  | .MV_0 => c == .mv
  | .MV_1 => c == .mv
  | .MV_2 => c == .mv
  | .MV_3 => c == .mv
  | .MV_4 => c == .mv
  | .MV_7 => c == .mv
  | .MV_6 => c == .mv
  | .MV_5 => c == .mv
  | .MV_10 => c == .mv
  | .MV_9 => c == .mv
  | .MV_8 => c == .mv
  | .MV_16 => c == .mv
  | .MV_15 => c == .mv
  | .MV_14 => c == .mv
  | .MV_13 => c == .mv
  | .MV_12 => c == .mv
  | .MV_11 => c == .mv
  | .DCL_1 => c == .dcl
  | .DCL_2 => c == .dcl
  | .DCL_0 => c == .dcl
  | .DCL_3 => c == .dcl
  | .DCL_4 => c == .dcl
  | .DCL_5 => c == .dcl
  | .DCL_6 => c == .dcl
  | .DCL_7 => c == .dcl
  | .DCL_8 => c == .dcl
  | .DCL_9 => c == .dcl
  | .DCL_10 => c == .dcl
  | .DCL_11 => c == .dcl
  | .DCC_0 => c == .dcc
  | .DCC_1 => c == .dcc
  | .DCC_2 => c == .dcc
  | .DCC_3 => c == .dcc
  | .DCC_4 => c == .dcc
  | .DCC_5 => c == .dcc
  | .DCC_6 => c == .dcc
  | .DCC_7 => c == .dcc
  | .DCC_8 => c == .dcc
  | .DCC_9 => c == .dcc
  | .DCC_10 => c == .dcc
  | .DCC_11 => c == .dcc
  | .DCT0_EOB => c == .dct0
  | .DCT0__0_1 _ => c == .dct0
  | .DCT0__1_1 _ => c == .dct0 || c == .dct0First
  | .DCT0__0_2 _ => c == .dct0 || c == .dct0First
  | .DCT0__2_1 _ => c == .dct0 || c == .dct0First
  | .DCT0__0_3 _ => c == .dct0 || c == .dct0First
  | .DCT0__4_1 _ => c == .dct0 || c == .dct0First
  | .DCT0__3_1 _ => c == .dct0 || c == .dct0First
  | .DCT0_ESC _ _ => c == .dct0 || c == .dct0First
  | .DCT0__7_1 _ => c == .dct0 || c == .dct0First
  | .DCT0__6_1 _ => c == .dct0 || c == .dct0First
  | .DCT0__1_2 _ => c == .dct0 || c == .dct0First
  | .DCT0__5_1 _ => c == .dct0 || c == .dct0First
  | .DCT0__2_2 _ => c == .dct0 || c == .dct0First
  | .DCT0__9_1 _ => c == .dct0 || c == .dct0First
  | .DCT0__0_4 _ => c == .dct0 || c == .dct0First
  | .DCT0__8_1 _ => c == .dct0 || c == .dct0First
  | .DCT0__13_1 _ => c == .dct0 || c == .dct0First
  | .DCT0__0_6 _ => c == .dct0 || c == .dct0First
  | .DCT0__12_1 _ => c == .dct0 || c == .dct0First
  | .DCT0__11_1 _ => c == .dct0 || c == .dct0First
  | .DCT0__3_2 _ => c == .dct0 || c == .dct0First
  | .DCT0__1_3 _ => c == .dct0 || c == .dct0First
  | .DCT0__0_5 _ => c == .dct0 || c == .dct0First
  | .DCT0__10_1 _ => c == .dct0 || c == .dct0First
  | .DCT0__16_1 _ => c == .dct0 || c == .dct0First
  | .DCT0__5_2 _ => c == .dct0 || c == .dct0First
  | .DCT0__0_7 _ => c == .dct0 || c == .dct0First
  | .DCT0__2_3 _ => c == .dct0 || c == .dct0First
  | .DCT0__1_4 _ => c == .dct0 || c == .dct0First
  | .DCT0__15_1 _ => c == .dct0 || c == .dct0First
  | .DCT0__14_1 _ => c == .dct0 || c == .dct0First
  | .DCT0__4_2 _ => c == .dct0 || c == .dct0First
  | .DCT0__0_11 _ => c == .dct0 || c == .dct0First
  | .DCT0__8_2 _ => c == .dct0 || c == .dct0First
  | .DCT0__4_3 _ => c == .dct0 || c == .dct0First
  | .DCT0__0_10 _ => c == .dct0 || c == .dct0First
  | .DCT0__2_4 _ => c == .dct0 || c == .dct0First
  | .DCT0__7_2 _ => c == .dct0 || c == .dct0First
  | .DCT0__21_1 _ => c == .dct0 || c == .dct0First
  | .DCT0__20_1 _ => c == .dct0 || c == .dct0First
  | .DCT0__0_9 _ => c == .dct0 || c == .dct0First
  | .DCT0__19_1 _ => c == .dct0 || c == .dct0First
  | .DCT0__18_1 _ => c == .dct0 || c == .dct0First
  | .DCT0__1_5 _ => c == .dct0 || c == .dct0First
  | .DCT0__3_3 _ => c == .dct0 || c == .dct0First
  | .DCT0__0_8 _ => c == .dct0 || c == .dct0First
  | .DCT0__6_2 _ => c == .dct0 || c == .dct0First
  | .DCT0__17_1 _ => c == .dct0 || c == .dct0First
  | .DCT0__10_2 _ => c == .dct0 || c == .dct0First
  | .DCT0__9_2 _ => c == .dct0 || c == .dct0First
  | .DCT0__5_3 _ => c == .dct0 || c == .dct0First
  | .DCT0__3_4 _ => c == .dct0 || c == .dct0First
  | .DCT0__2_5 _ => c == .dct0 || c == .dct0First
  | .DCT0__1_7 _ => c == .dct0 || c == .dct0First
  | .DCT0__1_6 _ => c == .dct0 || c == .dct0First
  | .DCT0__0_15 _ => c == .dct0 || c == .dct0First
  | .DCT0__0_14 _ => c == .dct0 || c == .dct0First
  | .DCT0__0_13 _ => c == .dct0 || c == .dct0First
  | .DCT0__0_12 _ => c == .dct0 || c == .dct0First
  | .DCT0__26_1 _ => c == .dct0 || c == .dct0First
  | .DCT0__25_1 _ => c == .dct0 || c == .dct0First
  | .DCT0__24_1 _ => c == .dct0 || c == .dct0First
  | .DCT0__23_1 _ => c == .dct0 || c == .dct0First
  | .DCT0__22_1 _ => c == .dct0 || c == .dct0First
  | .DCT0__0_31 _ => c == .dct0 || c == .dct0First
  | .DCT0__0_30 _ => c == .dct0 || c == .dct0First
  | .DCT0__0_29 _ => c == .dct0 || c == .dct0First
  | .DCT0__0_28 _ => c == .dct0 || c == .dct0First
  | .DCT0__0_27 _ => c == .dct0 || c == .dct0First
  | .DCT0__0_26 _ => c == .dct0 || c == .dct0First
  | .DCT0__0_25 _ => c == .dct0 || c == .dct0First
  | .DCT0__0_24 _ => c == .dct0 || c == .dct0First
  | .DCT0__0_23 _ => c == .dct0 || c == .dct0First
  | .DCT0__0_22 _ => c == .dct0 || c == .dct0First
  | .DCT0__0_21 _ => c == .dct0 || c == .dct0First
  | .DCT0__0_20 _ => c == .dct0 || c == .dct0First
  | .DCT0__0_19 _ => c == .dct0 || c == .dct0First
  | .DCT0__0_18 _ => c == .dct0 || c == .dct0First
  | .DCT0__0_17 _ => c == .dct0 || c == .dct0First
  | .DCT0__0_16 _ => c == .dct0 || c == .dct0First
  | .DCT0__0_40 _ => c == .dct0 || c == .dct0First
  | .DCT0__0_39 _ => c == .dct0 || c == .dct0First
  | .DCT0__0_38 _ => c == .dct0 || c == .dct0First
  | .DCT0__0_37 _ => c == .dct0 || c == .dct0First
  | .DCT0__0_36 _ => c == .dct0 || c == .dct0First
  | .DCT0__0_35 _ => c == .dct0 || c == .dct0First
  | .DCT0__0_34 _ => c == .dct0 || c == .dct0First
  | .DCT0__0_33 _ => c == .dct0 || c == .dct0First
  | .DCT0__0_32 _ => c == .dct0 || c == .dct0First
  | .DCT0__1_14 _ => c == .dct0 || c == .dct0First
  | .DCT0__1_13 _ => c == .dct0 || c == .dct0First
  | .DCT0__1_12 _ => c == .dct0 || c == .dct0First
  | .DCT0__1_11 _ => c == .dct0 || c == .dct0First
  | .DCT0__1_10 _ => c == .dct0 || c == .dct0First
  | .DCT0__1_9 _ => c == .dct0 || c == .dct0First
  | .DCT0__1_8 _ => c == .dct0 || c == .dct0First
  | .DCT0__1_18 _ => c == .dct0 || c == .dct0First
  | .DCT0__1_17 _ => c == .dct0 || c == .dct0First
  | .DCT0__1_16 _ => c == .dct0 || c == .dct0First
  | .DCT0__1_15 _ => c == .dct0 || c == .dct0First
  | .DCT0__6_3 _ => c == .dct0 || c == .dct0First
  | .DCT0__16_2 _ => c == .dct0 || c == .dct0First
  | .DCT0__15_2 _ => c == .dct0 || c == .dct0First
  | .DCT0__14_2 _ => c == .dct0 || c == .dct0First
  | .DCT0__13_2 _ => c == .dct0 || c == .dct0First
  | .DCT0__12_2 _ => c == .dct0 || c == .dct0First
  | .DCT0__11_2 _ => c == .dct0 || c == .dct0First
  | .DCT0__31_1 _ => c == .dct0 || c == .dct0First
  | .DCT0__30_1 _ => c == .dct0 || c == .dct0First
  | .DCT0__29_1 _ => c == .dct0 || c == .dct0First
  | .DCT0__28_1 _ => c == .dct0 || c == .dct0First
  | .DCT0__27_1 _ => c == .dct0 || c == .dct0First
  | .DCT0_FIRST__0_1 _ => c == .dct0First
  | .DCT1__0_1 _ => c == .dct1
  | .DCT1__1_1 _ => c == .dct1
  | .DCT1__0_2 _ => c == .dct1
  | .DCT1_EOB => c == .dct1
  | .DCT1__0_3 _ => c == .dct1
  | .DCT1__2_1 _ => c == .dct1
  | .DCT1__1_2 _ => c == .dct1
  | .DCT1__3_1 _ => c == .dct1
  | .DCT1__0_4 _ => c == .dct1
  | .DCT1__0_5 _ => c == .dct1
  | .DCT1_ESC _ _ => c == .dct1
  | .DCT1__0_7 _ => c == .dct1
  | .DCT1__0_6 _ => c == .dct1
  | .DCT1__4_1 _ => c == .dct1
  | .DCT1__5_1 _ => c == .dct1
  | .DCT1__7_1 _ => c == .dct1
  | .DCT1__8_1 _ => c == .dct1
  | .DCT1__6_1 _ => c == .dct1
  | .DCT1__2_2 _ => c == .dct1
  | .DCT1__9_1 _ => c == .dct1
  | .DCT1__1_3 _ => c == .dct1
  | .DCT1__10_1 _ => c == .dct1
  | .DCT1__0_8 _ => c == .dct1
  | .DCT1__0_9 _ => c == .dct1
  | .DCT1__1_5 _ => c == .dct1
  | .DCT1__11_1 _ => c == .dct1
  | .DCT1__0_11 _ => c == .dct1
  | .DCT1__0_10 _ => c == .dct1
  | .DCT1__13_1 _ => c == .dct1
  | .DCT1__12_1 _ => c == .dct1
  | .DCT1__3_2 _ => c == .dct1
  | .DCT1__1_4 _ => c == .dct1
  | .DCT1__0_12 _ => c == .dct1
  | .DCT1__0_13 _ => c == .dct1
  | .DCT1__2_3 _ => c == .dct1
  | .DCT1__4_2 _ => c == .dct1
  | .DCT1__0_14 _ => c == .dct1
  | .DCT1__0_15 _ => c == .dct1
  | .DCT1__5_2 _ => c == .dct1
  | .DCT1__14_1 _ => c == .dct1
  | .DCT1__15_1 _ => c == .dct1
  | .DCT1__2_4 _ => c == .dct1
  | .DCT1__16_1 _ => c == .dct1
  | .DCT1__8_2 _ => c == .dct1
  | .DCT1__4_3 _ => c == .dct1
  | .DCT1__7_2 _ => c == .dct1
  | .DCT1__21_1 _ => c == .dct1
  | .DCT1__20_1 _ => c == .dct1
  | .DCT1__19_1 _ => c == .dct1
  | .DCT1__18_1 _ => c == .dct1
  | .DCT1__3_3 _ => c == .dct1
  | .DCT1__6_2 _ => c == .dct1
  | .DCT1__17_1 _ => c == .dct1
  | .DCT1__10_2 _ => c == .dct1
  | .DCT1__9_2 _ => c == .dct1
  | .DCT1__5_3 _ => c == .dct1
  | .DCT1__3_4 _ => c == .dct1
  | .DCT1__2_5 _ => c == .dct1
  | .DCT1__1_7 _ => c == .dct1
  | .DCT1__1_6 _ => c == .dct1
  | .DCT1__26_1 _ => c == .dct1
  | .DCT1__25_1 _ => c == .dct1
  | .DCT1__24_1 _ => c == .dct1
  | .DCT1__23_1 _ => c == .dct1
  | .DCT1__22_1 _ => c == .dct1
  | .DCT1__0_31 _ => c == .dct1
  | .DCT1__0_30 _ => c == .dct1
  | .DCT1__0_29 _ => c == .dct1
  | .DCT1__0_28 _ => c == .dct1
  | .DCT1__0_27 _ => c == .dct1
  | .DCT1__0_26 _ => c == .dct1
  | .DCT1__0_25 _ => c == .dct1
  | .DCT1__0_24 _ => c == .dct1
  | .DCT1__0_23 _ => c == .dct1
  | .DCT1__0_22 _ => c == .dct1
  | .DCT1__0_21 _ => c == .dct1
  | .DCT1__0_20 _ => c == .dct1
  | .DCT1__0_19 _ => c == .dct1
  | .DCT1__0_18 _ => c == .dct1
  | .DCT1__0_17 _ => c == .dct1
  | .DCT1__0_16 _ => c == .dct1
  | .DCT1__0_40 _ => c == .dct1
  | .DCT1__0_39 _ => c == .dct1
  | .DCT1__0_38 _ => c == .dct1
  | .DCT1__0_37 _ => c == .dct1
  | .DCT1__0_36 _ => c == .dct1
  | .DCT1__0_35 _ => c == .dct1
  | .DCT1__0_34 _ => c == .dct1
  | .DCT1__0_33 _ => c == .dct1
  | .DCT1__0_32 _ => c == .dct1
  | .DCT1__1_14 _ => c == .dct1
  | .DCT1__1_13 _ => c == .dct1
  | .DCT1__1_12 _ => c == .dct1
  | .DCT1__1_11 _ => c == .dct1
  | .DCT1__1_10 _ => c == .dct1
  | .DCT1__1_9 _ => c == .dct1
  | .DCT1__1_8 _ => c == .dct1
  | .DCT1__1_18 _ => c == .dct1
  | .DCT1__1_17 _ => c == .dct1
  | .DCT1__1_16 _ => c == .dct1
  | .DCT1__1_15 _ => c == .dct1
  | .DCT1__6_3 _ => c == .dct1
  | .DCT1__16_2 _ => c == .dct1
  | .DCT1__15_2 _ => c == .dct1
  | .DCT1__14_2 _ => c == .dct1
  | .DCT1__13_2 _ => c == .dct1
  | .DCT1__12_2 _ => c == .dct1
  | .DCT1__11_2 _ => c == .dct1
  | .DCT1__31_1 _ => c == .dct1
  | .DCT1__30_1 _ => c == .dct1
  | .DCT1__29_1 _ => c == .dct1
  | .DCT1__28_1 _ => c == .dct1
  | .DCT1__27_1 _ => c == .dct1

-- ---------------------------------------------------------------- the opcode table's own words

/-- A table word of `nbits` bits as the bytes of a packet buffer, the most significant bit first (R7). -/
def tableBytes (nbits w : Nat) : List Byte :=
  (List.range (nbits / 8)).map fun k => BitVec.ofNat 8 (w >>> (nbits - 8 - 8 * k))

/-- Zero bytes after a table word: as long as the longest instruction without an extra chain, a sequence header with both
matrices (1088 bits). -/
def tablePad : List Byte := List.replicate 136 0

/-- The contexts tried for a bare table word, in this order (log entry 10): the same bits are words of several tables, and
only the place in the syntax tells which (R246). -/
def tableCtxs : List DecCtx :=
  [.startCode, .cbp, .dct0, .dct1, .dcl, .dcc, .mba, .mbTypeB, .mbTypeP, .mbTypeI, .mv, .dct0First, .extId,
   .frameMotionType, .mbQuant, .seqExt, .picCodingExt, .quantMatrix, .gop, .seqHeader, .picHeader, .sliceHeader]

/-- Decode in a context from bytes, 0 past their end. -/
def decodeBytes (c : DecCtx) (bs : List Byte) : Option Instr := decode c (byteBit bs) (8 * bs.length)

/-- Whether the bits of a table word are those of an instruction read in context `c`. The table may give a row fewer bits
than the instruction has, and gives a motion code the sign bit that its meaning reads. -/
def tableMatch (c : DecCtx) (bits : List Bool) (i : Instr) : Bool :=
  let e := encode i
  if c == .mv then e == bits || e == bits.dropLast else e.take bits.length == bits

/-- The first context in which the word is an instruction. -/
def tableCtx (nbits w : Nat) : Option DecCtx :=
  tableCtxs.find? fun c =>
    match decodeBytes c (tableBytes nbits w ++ tablePad) with
    | some i => tableMatch c (natBits nbits w) i
    | none => false

/-- The instruction the decoder reads from a table word of `nbits` bits. -/
def decodeTableWord (nbits w : Nat) : Option Instr :=
  match tableCtx nbits w with
  | some c => decodeBytes c (tableBytes nbits w ++ tablePad)
  | none => none

end Sys2Proof
end

