-- ==== Sys2Proof/Machine/Memory.lean ====
section
/-! DEFINITION. The frame-buffer arena as a memory of samples (20_memory.md R100, R105): a list of (address, sample)
cells, addresses strictly rising. A sample that no cell lists is unwritten (R52, R108): it reads as no value. -/

namespace Sys2Proof.Machine

/-- The samples that have been written, by address. -/
abbrev Memory := List Host.Cell

/-- The canonical form: addresses strictly rise. An unlisted address reads as no value, so no cell can be redundant. -/
abbrev Memory.wf (m : Memory) : Prop := m.Pairwise fun a b => a.1 < b.1

/-- The sample at an address, or `none` where nothing has been written. -/
def Memory.read : Memory → Nat → Option Byte
  | [], _ => none
  | (k, v) :: m, a => if k = a then some v else Memory.read m a

/-- Write one sample, keeping the addresses in order. -/
def Memory.write : Memory → Nat → Byte → Memory
  | [], a, v => [(a, v)]
  | (k, w) :: m, a, v =>
    if a < k then (a, v) :: (k, w) :: m
    else if a = k then (a, v) :: m
    else (k, w) :: Memory.write m a v

/-- Write a list of samples, first to last. -/
def Memory.writeAll (m : Memory) (cells : List Host.Cell) : Memory :=
  cells.foldl (fun acc c => acc.write c.1 c.2) m

/-- The number of a plane within its frame buffer. -/
def planeNo : Plane → Nat
  | .y => 0
  | .cb => 1
  | .cr => 2

/-- The base address of plane `c` of frame buffer `b`: a multiple of 128 (R106), 2^24 addresses for each plane, more than
the 4096 * 2800 samples of the largest (R6). The values are the model's (DESIGN CHOICE, log entry 6, safe). -/
def planeBase (b : Fin 3) (c : Plane) : Nat := (3 * b.val + planeNo c) * 2 ^ 24

/-- The address of sample (x, y) of a plane with a row stride (R105). -/
def sampleAddr (b : Fin 3) (c : Plane) (stride x y : Nat) : Nat := planeBase b c + (y * stride + x)

end Sys2Proof.Machine
end

