-- ==== Sys2Proof/Machine/Tables.lean ====
section
/-! DEFINITION. The constant tables of R56: the scans (R383), the default intra matrix (R384) and the non-linear
quantiser mapping (R341). -/

namespace Sys2Proof.Machine

/-- `SCAN[0]`, the zig-zag scan (R383): scan index to raster position. -/
def zigzagScan : List Nat :=
  [0, 1, 8, 16, 9, 2, 3, 10,
   17, 24, 32, 25, 18, 11, 4, 5,
   12, 19, 26, 33, 40, 48, 41, 34,
   27, 20, 13, 6, 7, 14, 21, 28,
   35, 42, 49, 56, 57, 50, 43, 36,
   29, 22, 15, 23, 30, 37, 44, 51,
   58, 59, 52, 45, 38, 31, 39, 46,
   53, 60, 61, 54, 47, 55, 62, 63]

/-- `SCAN[1]`, the alternate scan (R383). -/
def alternateScan : List Nat :=
  [0, 8, 16, 24, 1, 9, 2, 10,
   17, 25, 32, 40, 48, 56, 57, 49,
   41, 33, 26, 18, 3, 11, 4, 12,
   19, 27, 34, 42, 50, 58, 35, 43,
   51, 59, 20, 28, 5, 13, 6, 14,
   21, 29, 36, 44, 52, 60, 37, 45,
   53, 61, 22, 30, 7, 15, 23, 31,
   38, 46, 54, 62, 39, 47, 55, 63]

/-- `SCAN[alternate_scan][idx]` (R383). -/
def scanPos (alternate : Bool) (idx : Nat) : Nat :=
  (if alternate then alternateScan else zigzagScan).getD idx 0

/-- `DEFAULT_INTRA` in raster order (R384). -/
def defaultIntra : List Byte :=
  [8, 16, 19, 22, 26, 27, 29, 34,
   16, 16, 22, 24, 27, 29, 34, 37,
   19, 22, 26, 27, 29, 34, 34, 38,
   22, 22, 26, 27, 29, 34, 37, 40,
   22, 26, 27, 29, 32, 35, 40, 48,
   26, 27, 29, 32, 35, 40, 48, 58,
   26, 27, 29, 34, 38, 46, 56, 69,
   27, 29, 35, 38, 46, 56, 69, 83]

/-- The default non-intra matrix: 16 everywhere (R384). -/
def defaultNonIntra : List Byte := List.replicate 64 16

/-- `NONLINEAR[code]` (R341); index 0 is not a code. -/
def nonlinearScale : List Nat :=
  [0, 1, 2, 3, 4, 5, 6, 7, 8, 10, 12, 14, 16, 18, 20, 22,
   24, 28, 32, 36, 40, 44, 48, 52, 56, 64, 72, 80, 88, 96, 104, 112]

/-- `qmap(code)` (R341). -/
def qmap (qScaleType : Bool) (code : Nat) : Nat :=
  if qScaleType then nonlinearScale.getD code 0 else 2 * code

end Sys2Proof.Machine
end

