-- ==== Sys2Proof/Machine/State.lean ====
section
/-! DEFINITION. The state of the core (10_state.md), grouped in the lifetime classes of R30, and the reasons a step can stop.
Registers have the spec's names. Where the spec says "unwritten" the field holds the value named in log entry 3, and a
register that becomes unwritten again keeps its last value (DESIGN CHOICE, log entry 24). -/

namespace Sys2Proof.Machine

-- ---------------------------------------------------------------- names

/-- The orchestrator phase (R34). -/
inductive Phase where
  | awaitSequenceHeader | awaitPictureStart | decodingSlices | pictureComplete | failed
  deriving DecidableEq, Repr

/-- Who asked for the next start code: the top loop of `decode` (R592), `extensionAndUserData()` of a picture (R301, R597),
the slice loop (R597), or the loop that skips the slices of an unsupported picture (R597). -/
inductive ScanMode where
  | top | picExt | slices | skipSlices
  deriving DecidableEq, Repr

/-- The place in the pseudocode: which syntax element is read next (DEDUCED, log entry 1). `r`, `d` and `t` are
the vector number, direction and component; `i` is the block; `first` marks the first increment of a slice and the first
coefficient of a non-intra block. -/
inductive Ctx where
  | idle
  | startCode (m : ScanMode)
  | extId (m : ScanMode)
  | seqExt (m : ScanMode)
  | quantMatrix (m : ScanMode)
  | picCodingExt (m : ScanMode)
  | seqHeader | gop | picHeader | sliceHeader
  | mba (first : Bool)
  | mbType | frameMotionType | dctType | mbQuant
  | fieldSelect (r d : Bool)
  | motionCode (r d t : Bool)
  | marker | cbp
  | dcSize (i : Fin 6)
  | dcDiff (i : Fin 6) (n : Nat)
  | coef (i : Fin 6) (first : Bool)
  deriving DecidableEq, Repr

/-- The Corrupt codes (R661), in the order of their numbers 1 to 8. -/
inductive CorruptCode where
  | invalidVlc | coefIndexOverflow | invalidEscape | forbiddenQuant
  | invalidFCode | reservedMotionType | mbAddressOverflow | skipWithoutPrediction
  deriving DecidableEq, Repr

/-- An entry of the event log (R666, R667). `pos` is a bit position: of every corrupt event and skipped unit, where it was
detected (R55; log entry 23). -/
inductive LogEntry where
  | corrupt (code : CorruptCode) (pos : Nat)
  | skippedExtension (id : Nat) (pos : Nat)
  | skippedCode (code : Byte) (pos : Nat)
  | skippedSlice (pos : Nat)
  | skippedPicture (type : BitVec 3) (pos : Nat)
  | sequenceEnd (pos : Nat)
  | allocFailed
  deriving DecidableEq, Repr

/-- The macroblock type flags (R48): quant, motion forward, motion backward, pattern, intra. -/
structure MbFlags where
  q : Bool
  f : Bool
  b : Bool
  p : Bool
  i : Bool
  deriving DecidableEq, Repr

/-- `{}`: no flag set. -/
def MbFlags.empty : MbFlags := ⟨false, false, false, false, false⟩

/-- The motion type of a macroblock (R49). -/
inductive MotionType where
  | none | field | frame
  deriving DecidableEq, Repr

/-- The vector format of a macroblock (R49). -/
inductive MvFormat where
  | frame | field
  deriving DecidableEq, Repr

-- ---------------------------------------------------------------- the output ring and the host's commands

/-- A slot of the output ring (R54). -/
structure Slot where
  pts        : BitVec 64
  bufIdx     : Fin 3
  yStride    : Nat
  cStride    : Nat
  w          : Nat
  h          : Nat
  srcSize    : Nat
  codingType : BitVec 3
  deriving DecidableEq, Repr

/-- A slot at `create()`: `pts` 0, the other fields unwritten (R710; log entry 3). -/
def Slot.empty : Slot := ⟨0, 0, 0, 0, 0, 0, 0, 0⟩

/-- The host commands (R590, R620, R621). -/
inductive Command where
  | create
  | decode (buf : List Byte) (pts : BitVec 64)
  | lookup (q : BitVec 64)
  | slotRead (k : Nat)
  | slotSample (k : Nat) (c : Plane) (x y : Nat)
  deriving DecidableEq, Repr

/-- The answers to the host commands (R55, R606, R620, R621). A sample of `none` is an unwritten one. -/
inductive Reply where
  | created
  | decoded (ok : Bool) (consumed : Nat) (errLog : List LogEntry)
  | slot (k : Option Nat)
  | slotFields (slot : Slot)
  | sample (v : Option Byte)
  deriving DecidableEq, Repr

-- ---------------------------------------------------------------- the registers, by lifetime class (R30)

/-- Instance state: phase, frame-buffer arena and roles, output ring (R34, R35, R52 to R54). -/
structure InstanceState where
  phase     : Phase
  allocated : Option (Nat × Nat)
  fb        : Memory
  fwdIdx    : Fin 3
  bwdIdx    : Fin 3
  auxIdx    : Fin 3
  curIdx    : Fin 3
  ring      : List Slot
  wr        : Nat
  deriving DecidableEq, Repr

/-- Sequence registers and quantiser matrices (R36, R38, R39). The geometry of R37 is computed from the size fields. -/
structure SequenceRegs where
  horizontal_size_value           : BitVec 12
  vertical_size_value             : BitVec 12
  aspect_ratio_information        : BitVec 4
  frame_rate_code                 : BitVec 4
  bit_rate_value                  : BitVec 18
  vbv_buffer_size_value           : BitVec 10
  constrained_parameters_flag     : Bool
  load_intra_quantiser_matrix     : Bool
  load_non_intra_quantiser_matrix : Bool
  profile_and_level_indication    : BitVec 8
  progressive_sequence            : Bool
  chroma_format                   : BitVec 2
  horizontal_size_extension       : BitVec 2
  vertical_size_extension         : BitVec 2
  bit_rate_extension              : BitVec 12
  vbv_buffer_size_extension       : BitVec 8
  low_delay                       : Bool
  frame_rate_extension_n          : BitVec 2
  frame_rate_extension_d          : BitVec 5
  intraQ                          : List Byte
  nonIntraQ                       : List Byte
  deriving DecidableEq, Repr

/-- Picture registers (R40 to R42). `f_code.get s` is direction `s`, then `.get t` component `t`. -/
structure PictureRegs where
  temporal_reference         : BitVec 10
  picture_coding_type        : BitVec 3
  vbv_delay                  : BitVec 16
  full_pel_forward_vector    : Bool
  forward_f_code             : BitVec 3
  full_pel_backward_vector   : Bool
  backward_f_code            : BitVec 3
  f_code                     : Pair (Pair (BitVec 4))
  intra_dc_precision         : BitVec 2
  picture_structure          : BitVec 2
  top_field_first            : Bool
  frame_pred_frame_dct       : Bool
  concealment_motion_vectors : Bool
  q_scale_type               : Bool
  intra_vlc_format           : Bool
  alternate_scan             : Bool
  repeat_first_field         : Bool
  chroma_420_type            : Bool
  progressive_frame          : Bool
  composite_display_flag     : Bool
  v_axis                     : Bool
  field_sequence             : BitVec 3
  sub_carrier                : Bool
  burst_amplitude            : BitVec 7
  sub_carrier_phase          : BitVec 8
  pceSeen                    : Bool
  deriving DecidableEq, Repr

/-- Slice registers (R43 to R47; outside a slice log entry 24). `pmv.get r` is vector `r`, then `.get s` direction, then `.get t` component. -/
structure SliceRegs where
  quantiser_scale_code : BitVec 5
  quantiserScale       : Nat
  mba                  : Nat
  mbaInc               : Nat
  sliceRow             : Nat
  dcPred               : Triple Int
  pmv                  : Pair (Pair (Pair Int))
  mvfs                 : Pair (Pair Bool)
  deriving DecidableEq, Repr

/-- Macroblock registers (R48 to R51; outside a macroblock log entry 24), and the coefficient index of the AC loop (R374). -/
structure MacroblockRegs where
  mbType     : MbFlags
  prevMbType : MbFlags
  motionType : MotionType
  mvCount    : Nat
  mvFormat   : MvFormat
  mvScale    : Bool
  dctType    : Bool
  cbp        : BitVec 6
  blk        : List (List Int)
  coefIdx    : Int
  deriving DecidableEq, Repr

/-- Command state (R31, R32, R55, R100; outside a command log entry 24): the packet buffer and its cursor, the timestamp operand, the outputs. `cmdNo` is
the model's own: it counts decode commands and numbers the draws (log entry 5). -/
structure CommandState where
  cmdNo    : Nat
  pkt      : List Byte
  bp       : Nat
  pts      : BitVec 64
  ok       : Bool
  consumed : Nat
  errLog   : List LogEntry
  deriving DecidableEq, Repr

/-- The state of the core. `inbox` holds host commands not yet taken and `outbox` the answers given (log entry 2). -/
structure State where
  cfg    : Params
  ctx    : Ctx
  inst   : InstanceState
  seq    : SequenceRegs
  pic    : PictureRegs
  slc    : SliceRegs
  mb     : MacroblockRegs
  cmd    : CommandState
  inbox  : List Command
  outbox : List Reply
  deriving DecidableEq, Repr

-- ---------------------------------------------------------------- stops

/-- Why a read of a reference sample gives no value (R108, R540). -/
inductive ReadFault where
  | unwrittenSample | refOutOfRange
  deriving DecidableEq, Repr

/-- The faults (R672), and the model's own. A fault of the spec carries the state it leaves: everything written before it,
with the cursor and the event log so far (R673; log entry 14). -/
inductive Fault where
  /-- Raised by reconstruction when no frame buffer of the current geometry exists or `mba` is not on the grid: a read of
  state that holds no value (R672 `Unwritten`). No bitstream reaches it. Safe. -/
  | unwritten (at_ : State)
  /-- Raised by a prediction that reads a reference sample nothing has written since allocation (R108, R540). Safe. -/
  | unwrittenSample (at_ : State)
  /-- Raised by a prediction that reads outside the reference plane (R108, R540). Safe. -/
  | refOutOfRange (at_ : State)
  /-- Raised by `exec` of an element that is not the one due at the state's place in the syntax. A step decodes
  the due element, so it never raises it. Safe. -/
  | outOfContext
  deriving DecidableEq, Repr

/-- The refusals (R670), and the model's own. A refusal of the spec carries the state it leaves (R673; log entry 14). -/
inductive Refusal where
  /-- An instruction with no meaning yet, rejected by name in the dispatch. Safe. -/
  | notModelled (mnemonic : String)
  /-- Raised by a sequence header with a size of 0 or more than 2800 lines (R305). Safe. -/
  | geometry (at_ : State)
  /-- Raised by a sequence extension with `chroma_format` other than 1 (R312). Safe. -/
  | chromaFormat (at_ : State)
  /-- Raised by a sequence extension with a size extension other than 0 (R312). Safe. -/
  | sizeExtension (at_ : State)
  /-- Raised at the end of a supported picture's extensions when `picture_structure` is not 3 (R331). Safe. -/
  | fieldPicture (at_ : State)
  /-- Raised by `frame_motion_type` 3 (R430). Safe. -/
  | dualPrime (at_ : State)
  /-- Raised by a slot read with an index or coordinates the host may not use (R621). Safe. -/
  | illegalHostRead
  deriving DecidableEq, Repr

-- ---------------------------------------------------------------- reset

/-- The picture registers at a picture start code (R42). The registers R42 does not name hold 0, the value of reset; at a
picture start they keep theirs (`State.resetPicture`). -/
def PictureRegs.reset : PictureRegs :=
  { temporal_reference := 0, picture_coding_type := 0, vbv_delay := 0,
    full_pel_forward_vector := false, forward_f_code := 7, full_pel_backward_vector := false, backward_f_code := 7,
    f_code := Pair.const (Pair.const 15), intra_dc_precision := 0, picture_structure := 3, top_field_first := false,
    frame_pred_frame_dct := true, concealment_motion_vectors := false, q_scale_type := false,
    intra_vlc_format := false, alternate_scan := false, repeat_first_field := false, chroma_420_type := false,
    progressive_frame := true, composite_display_flag := false, v_axis := false, field_sequence := 0,
    sub_carrier := false, burst_amplitude := 0, sub_carrier_phase := 0, pceSeen := false }

/-- Six blocks of 64 zeros (R51). -/
def zeroBlk : List (List Int) := List.replicate 6 (List.replicate 64 0)

/-- The value of `curIdx` while it is unwritten: after `create()` and after an allocation, until a picture starts (R53;
log entry 3). -/
def unwrittenCurIdx : Fin 3 := 2

/-- Instance state at `create()` (R710, R711). -/
def InstanceState.reset (ringN : Nat) : InstanceState :=
  { phase := .awaitSequenceHeader, allocated := none, fb := [], fwdIdx := 0, bwdIdx := 1, auxIdx := 2,
    curIdx := unwrittenCurIdx,
    ring := List.replicate ringN Slot.empty, wr := 0 }

/-- Sequence registers at `create()`: the default matrices (R711), the rest unwritten (log entry 3). -/
def SequenceRegs.reset : SequenceRegs :=
  { horizontal_size_value := 0, vertical_size_value := 0, aspect_ratio_information := 0, frame_rate_code := 0,
    bit_rate_value := 0, vbv_buffer_size_value := 0, constrained_parameters_flag := false,
    load_intra_quantiser_matrix := false, load_non_intra_quantiser_matrix := false,
    profile_and_level_indication := 0, progressive_sequence := false, chroma_format := 0,
    horizontal_size_extension := 0, vertical_size_extension := 0, bit_rate_extension := 0,
    vbv_buffer_size_extension := 0, low_delay := false, frame_rate_extension_n := 0, frame_rate_extension_d := 0,
    intraQ := defaultIntra, nonIntraQ := defaultNonIntra }

/-- Slice registers before any slice: unwritten (log entry 3). -/
def SliceRegs.reset : SliceRegs :=
  { quantiser_scale_code := 0, quantiserScale := 0, mba := 0, mbaInc := 0, sliceRow := 0, dcPred := Triple.const 0,
    pmv := Pair.const (Pair.const (Pair.const 0)), mvfs := Pair.const (Pair.const false) }

/-- Macroblock registers before any macroblock: unwritten (log entry 3). -/
def MacroblockRegs.reset : MacroblockRegs :=
  { mbType := .empty, prevMbType := .empty, motionType := .none, mvCount := 1, mvFormat := .frame, mvScale := false,
    dctType := false, cbp := 0, blk := zeroBlk, coefIdx := 0 }

/-- Command state outside a command: unwritten (log entry 3). -/
def CommandState.reset : CommandState :=
  { cmdNo := 0, pkt := [], bp := 0, pts := 0, ok := false, consumed := 0, errLog := [] }

/-- The machine right after `create()` (R710, R711), for given parameters. -/
def State.resetWith (cfg : Params) : State :=
  { cfg := cfg, ctx := .idle, inst := .reset cfg.ringN, seq := .reset, pic := .reset, slc := .reset, mb := .reset,
    cmd := .reset, inbox := [], outbox := [] }

/-- The machine right after reset, with the parameters' defaults (R6; log entry 4). -/
def State.reset : State := State.resetWith Params.default

end Sys2Proof.Machine
end

