-- ==== Sys2Proof/Machine/Ops.lean ====
section
/-! DEFINITION. The named operations on the state: field-group updates, derived geometry, the bit cursor
(40_bit_cursor.md), the event log and the handling of a Corrupt event (R663), samples of the frame buffers, and the ends
of a command. -/

namespace Sys2Proof.Machine

-- ---------------------------------------------------------------- updates of one group of registers

/-- The state with the instance registers changed. -/
def State.onInst (s : State) (f : InstanceState → InstanceState) : State := { s with inst := f s.inst }

/-- The state with the sequence registers changed. -/
def State.onSeq (s : State) (f : SequenceRegs → SequenceRegs) : State := { s with seq := f s.seq }

/-- The state with the picture registers changed. -/
def State.onPic (s : State) (f : PictureRegs → PictureRegs) : State := { s with pic := f s.pic }

/-- The state with the slice registers changed. -/
def State.onSlc (s : State) (f : SliceRegs → SliceRegs) : State := { s with slc := f s.slc }

/-- The state with the macroblock registers changed. -/
def State.onMb (s : State) (f : MacroblockRegs → MacroblockRegs) : State := { s with mb := f s.mb }

/-- The state with the command registers changed. -/
def State.onCmd (s : State) (f : CommandState → CommandState) : State := { s with cmd := f s.cmd }

/-- The state with another element due next. -/
def State.setCtx (s : State) (c : Ctx) : State := { s with ctx := c }

/-- The state in another orchestrator phase (R34). -/
def State.setPhase (s : State) (p : Phase) : State := s.onInst fun r => { r with phase := p }

/-- `bp <- p` (R9). -/
def State.setBp (s : State) (p : Nat) : State := s.onCmd fun r => { r with bp := p }

/-- `errLog.append(e)` (R667). -/
def State.log (s : State) (e : LogEntry) : State := s.onCmd fun r => { r with errLog := r.errLog ++ [e] }

-- ---------------------------------------------------------------- derived geometry (R37, R44)

/-- `16 * ceil(n / 16)` (R304). -/
def roundUp16 (n : Nat) : Nat := 16 * ((n + 15) / 16)

/-- Luma width (R37). -/
def State.width (s : State) : Nat := roundUp16 s.seq.horizontal_size_value.toNat

/-- Luma height (R37). -/
def State.height (s : State) : Nat := roundUp16 s.seq.vertical_size_value.toNat

/-- Chroma width (R37). -/
def State.chromaWidth (s : State) : Nat := s.width / 2

/-- Chroma height (R37). -/
def State.chromaHeight (s : State) : Nat := s.height / 2

/-- Macroblocks in a row (R37). -/
def State.mbWidth (s : State) : Nat := s.width / 16

/-- Macroblock rows (R37). -/
def State.mbHeight (s : State) : Nat := s.height / 16

/-- Macroblocks in a picture (R37). -/
def State.mbCount (s : State) : Nat := s.mbWidth * s.mbHeight

/-- The column of the macroblock at `mba` (R44). -/
def State.mbx (s : State) : Nat := s.slc.mba % s.mbWidth

/-- The row of the macroblock at `mba` (R44). -/
def State.mby (s : State) : Nat := s.slc.mba / s.mbWidth

-- ---------------------------------------------------------------- the bit cursor

/-- `bufLen` (R32). -/
def State.bufLen (s : State) : Nat := s.cmd.pkt.length

/-- The number of bits of the packet buffer. -/
def State.bufBits (s : State) : Nat := 8 * s.bufLen

/-- Bitstream bit `q` (R200). Past the end of the buffer it is zero or a draw (R202, D2; log entry 5): `look` and `bp`
number the draw, so that two reads draw separately (R104). -/
def State.bit (s : State) (look : Bool) (q : Nat) : Bool :=
  if q < s.bufBits then byteBit s.cmd.pkt q
  else
    match s.cfg.pastEnd with
    | .zero => false
    | .draw => Config.pastEndBit s.cmd.cmdNo look s.cmd.bp q

/-- `BitRead(p, n)` (R200). -/
def State.bitRead (s : State) (look : Bool) (p n : Nat) : Nat := fld (s.bit look) p n

/-- `peek(n)` (R203). -/
def State.peek (s : State) (n : Nat) : Nat := s.bitRead true s.cmd.bp n

/-- `consume(n)` (R204). -/
def State.consume (s : State) (n : Nat) : State := s.setBp (s.cmd.bp + n)

/-- `getBits(n)` (R205): the value and the state after it. -/
def State.getBits (s : State) (n : Nat) : Nat × State := (s.bitRead false s.cmd.bp n, s.consume n)

/-- The search of `getStartCode()` (R206): from a byte-aligned position, the first one whose 24 bits are 0x000001, or
`none` when fewer than 24 bits remain. -/
def scanStartCode (rd : Nat → Bool) (bits : Nat) : Nat → Nat → Option Nat
  | 0, _ => none
  | fuel + 1, p =>
    if bits < p + 24 then none
    else if fld rd p 24 = 1 then some p
    else scanStartCode rd bits fuel (p + 8)

/-- `8 * ceil(bp / 8)` (R206). -/
def alignByte (p : Nat) : Nat := 8 * ((p + 7) / 8)

/-- Where `getStartCode()` finds its prefix. -/
def State.startCodePos (s : State) : Option Nat :=
  scanStartCode (byteBit s.cmd.pkt) s.bufBits (s.bufLen + 1) (alignByte s.cmd.bp)

/-- `getStartCode()` (R206): whether a prefix was found, and the state with `bp` at it, or at the end of the buffer. -/
def State.getStartCode (s : State) : Bool × State :=
  match s.startCodePos with
  | some p => (true, s.setBp p)
  | none => (false, s.setBp s.bufBits)

/-- The 1 flags an extra-information chain may hold: any number inside the buffer, and past its end the drawn run (R321;
log entry 7). -/
def State.chainFuel (s : State) : Nat :=
  (match s.cfg.pastEnd with
    | .zero => 0
    | .draw => Config.pastEndRun s.cmd.cmdNo s.cmd.bp) + s.bufBits

-- ---------------------------------------------------------------- outcomes inside a command

/-- The outcome of a procedure of the pseudocode: it goes on, raises Corrupt (R661), or stops with a fault or a
refusal. -/
inductive Flow where
  | go (s : State)
  | corrupt (c : CorruptCode) (s : State)
  | fault (f : Fault)
  | refuse (r : Refusal)
  deriving DecidableEq, Repr

/-- Run the next procedure where the first one goes on. -/
def Flow.bind (x : Flow) (k : State → Flow) : Flow :=
  match x with
  | .go s => k s
  | .corrupt c s => .corrupt c s
  | .fault f => .fault f
  | .refuse r => .refuse r

/-- TAKING A CORRUPT EVENT (R663, R664, R615), the one exceptional transfer of control of the core: the event is logged with
its position, what was written stays, and the run goes on at the next start code. Nothing is saved and there is no
return from it (R681). -/
def takeCorrupt (c : CorruptCode) (s : State) : State :=
  ((s.log (.corrupt c s.cmd.bp)).getStartCode).2.setCtx (.startCode .slices)

/-- The outcome of an instruction: `slice()` catches a Corrupt event (R610). -/
def Flow.finish : Flow → Host.Outcome State Fault Refusal
  | .go s => .next s
  | .corrupt c s => .next (takeCorrupt c s)
  | .fault f => .fault f
  | .refuse r => .refused r

-- ---------------------------------------------------------------- samples of the frame buffers (R105)

/-- Columns of plane `c` of the allocated buffers. -/
def State.planeWidth (s : State) (c : Plane) : Nat :=
  let w := (s.inst.allocated.getD (0, 0)).1
  match c with
  | .y => w
  | _ => w / 2

/-- Rows of plane `c` of the allocated buffers. -/
def State.planeHeight (s : State) (c : Plane) : Nat :=
  let h := (s.inst.allocated.getD (0, 0)).2
  match c with
  | .y => h
  | _ => h / 2

/-- The address of sample (x, y) of plane `c` of buffer `b`. -/
def State.addr (s : State) (b : Fin 3) (c : Plane) (x y : Nat) : Nat := sampleAddr b c (s.planeWidth c) x y

/-- The sample (x, y) of plane `c` of buffer `b`, or `none` where it is unwritten. -/
def State.sample (s : State) (b : Fin 3) (c : Plane) (x y : Nat) : Option Byte := s.inst.fb.read (s.addr b c x y)

/-- The fault a read raises in state `s` (R108, R673). -/
def ReadFault.raise (e : ReadFault) (s : State) : Fault :=
  match e with
  | .unwrittenSample => .unwrittenSample s
  | .refOutOfRange => .refOutOfRange s

/-- `PlaneRead(b, c, x, y)` (R108, R540): no value outside the plane and at an unwritten sample. -/
def State.planeRead (s : State) (b : Fin 3) (c : Plane) (x y : Int) : Except ReadFault Nat :=
  if 0 ≤ x ∧ x < s.planeWidth c ∧ 0 ≤ y ∧ y < s.planeHeight c then
    match s.sample b c x.toNat y.toNat with
    | some v => .ok v.toNat
    | none => .error .unwrittenSample
  else .error .refOutOfRange

-- ---------------------------------------------------------------- ends of a command

/-- An answer to the host. The core is idle after it (R591). -/
def State.reply (s : State) (r : Reply) : State := { s with ctx := .idle, outbox := s.outbox ++ [r] }

/-- The return of a decode command (R55, R606). -/
def State.finishDecode (s : State) (ok : Bool) (consumed : Nat) : State :=
  (s.onCmd fun r => { r with ok := ok, consumed := consumed }).reply (.decoded ok consumed s.cmd.errLog)

end Sys2Proof.Machine
end

