-- ==== Sys2Proof/Machine/Operands.lean ====
section
/-! DEFINITION. The values operand fields stand for: escape levels (R243), DC differentials (R372), motion codes and
vectors (R237, R441), dequantisation (R379, R380), and the integer functions of R8. -/

namespace Sys2Proof.Machine

/-- `clip255(v)` (R8). -/
def clip255 (v : Int) : Int := min (max v 0) 255

/-- `clamp(lo, hi, v)` (R8). -/
def clampInt (lo hi v : Int) : Int := min (max v lo) hi

/-- A sample value as a byte. -/
def sampleByte (v : Int) : Byte := BitVec.ofNat 8 (clip255 v).toNat

/-- `tdiv(v, 2)` (R8, R534): division truncating toward zero. -/
def chromaComponent (v : Int) : Int := Int.tdiv v 2

/-- A magnitude and its sign bit (R374, R237). -/
def signed (neg : Bool) (m : Nat) : Int := if neg then -(m : Int) else m

/-- The level of an escape, folded at 2048 (R243): `sext_12`. -/
def escapeLevel (v : BitVec 12) : Int :=
  if 2048 ≤ v.toNat then -(4096 - (v.toNat : Int)) else v.toNat

/-- The levels R243 forbids. -/
def forbiddenEscape (v : BitVec 12) : Bool := v == 0 || v == 2048

/-- The differential that `size` bits of value `v` stand for (R372). -/
def dcValue (size v : Nat) : Int :=
  if size = 0 then 0
  else if v < 2 ^ (size - 1) then (v : Int) - (2 ^ size - 1)
  else v

/-- `decodeVector(pred, code, res, rs, fp)` (R441): one conditional wrap by `2 * lim` (D41). -/
def decodeVector (pred code : Int) (res rs : Nat) (fp : Bool) : Int :=
  let lim : Int := 16 * 2 ^ rs
  let v0 := if fp then pred / 2 else pred
  let v :=
    if 0 < code then
      let w := v0 + (code - 1) * 2 ^ rs + res + 1
      if lim ≤ w then w - 2 * lim else w
    else if code < 0 then
      let w := v0 - (-code - 1) * 2 ^ rs - res - 1
      if w < -lim then w + 2 * lim else w
    else v0
  if fp then v * 2 else v

/-- `dequant(level, j, intra)` (R379, R380, D47): on the magnitude, the sign after. -/
def dequant (intra : Bool) (level : Int) (scale : Nat) (weight : Byte) : Int :=
  let m :=
    if intra then (level.natAbs * scale * weight.toNat) / 16
    else ((2 * level.natAbs + 1) * scale * weight.toNat) / 32
  level.sign * m

/-- The component of block `i` (R371). -/
def blockPlane (i : Fin 6) : Plane :=
  if i.val < 4 then .y else if i.val = 4 then .cb else .cr

/-- The value the DC predictors reset to (R385, R450). -/
def dcReset (intraDcPrecision : BitVec 2) : Int := 2 ^ (7 + intraDcPrecision.toNat)

/-- `coefControl` under `iso` (R381): saturation, then mismatch control on the last coefficient. -/
def coefControlIso (b : List Int) : List Int :=
  let c := b.map (clampInt (-2048) 2047)
  if c.sum % 2 = 0 then
    let v := c.getD 63 0
    c.set 63 (if v % 2 = 0 then v + 1 else v - 1)
  else c

/-- Put 64 matrix bytes, sent in zig-zag order, into raster order (R303, R306). -/
def loadMatrix (old new : List Byte) : List Byte :=
  (List.range 64).foldl (fun q k => q.set (scanPos false k) (new.getD k 0)) old

end Sys2Proof.Machine
end

