-- ==== Sys2Proof/Machine/Flags.lean ====
section
/-! DEFINITION. The macroblock's flags and the registers that follow from them: motion type and mode registers (R431),
predictor resets (R450, R451), the type of a skipped macroblock (R452). -/

namespace Sys2Proof.Machine

/-- An intra macroblock with concealment vectors (R430, R444). -/
def State.concealed (s : State) : Bool := s.mb.mbType.i && s.pic.concealment_motion_vectors

/-- `mvCount`, `mvFormat`, `mvScale` and `dctType` from the motion type (R431). -/
def MacroblockRegs.setModes (m : MacroblockRegs) (t : MotionType) : MacroblockRegs :=
  { m with motionType := t,
           mvCount := if t = .field then 2 else 1,
           mvFormat := if t = .field then .field else .frame,
           mvScale := decide (t = .field),
           dctType := false }

/-- All vector predictors 0 (R451, R610). -/
def zeroPmv : Pair (Pair (Pair Int)) := Pair.const (Pair.const (Pair.const 0))

/-- The forward vector predictors 0 (R451, R452). -/
def zeroForwardPmv (p : Pair (Pair (Pair Int))) : Pair (Pair (Pair Int)) :=
  ⟨p.p0.set false (Pair.const 0), p.p1.set false (Pair.const 0)⟩

/-- Element `pmv[r][d][t]` (R46). -/
def SliceRegs.pmvAt (r : SliceRegs) (v d t : Bool) : Int := ((r.pmv.get v).get d).get t

/-- `pmv[v][d][t] <- x` (R46). -/
def SliceRegs.setPmv (r : SliceRegs) (v d t : Bool) (x : Int) : SliceRegs :=
  { r with pmv := r.pmv.set v ((r.pmv.get v).set d (((r.pmv.get v).get d).set t x)) }

/-- `pmv[1][d] <- pmv[0][d]` after a single vector (R436). -/
def SliceRegs.copyPmv (r : SliceRegs) (d : Bool) : SliceRegs :=
  { r with pmv := r.pmv.set true ((r.pmv.get true).set d ((r.pmv.get false).get d)) }

/-- `mvfs[v][d] <- f` (R440). -/
def SliceRegs.setMvfs (r : SliceRegs) (v d f : Bool) : SliceRegs :=
  { r with mvfs := r.mvfs.set v ((r.mvfs.get v).set d f) }

/-- A macroblock of a P picture with neither forward motion nor intra ("No MC", R451). -/
def State.noMc (s : State) : Bool :=
  s.pic.picture_coding_type == 2 && !s.mb.mbType.f && !s.mb.mbType.i

/-- All DC predictors at their reset value (R450). -/
def State.resetDcPred (s : State) : State :=
  s.onSlc fun r => { r with dcPred := Triple.const (dcReset s.pic.intra_dc_precision) }

/-- `predictorResets()` (R451). -/
def State.predictorResets (s : State) : State :=
  let s1 := if s.mb.mbType.i then s else s.resetDcPred
  let s2 :=
    if s.mb.mbType.i && !s.pic.concealment_motion_vectors then s1.onSlc fun r => { r with pmv := zeroPmv } else s1
  if s.noMc then
    (s2.onSlc fun r => { r with pmv := zeroForwardPmv r.pmv }).onMb fun m =>
      { m with motionType := .frame, mvCount := 1, mvFormat := .frame, mvScale := false }
  else s2

/-- `{F, B}` of a type (R452). -/
def MbFlags.directions (m : MbFlags) : MbFlags := ⟨false, m.f, m.b, false, false⟩

/-- Whether a type has a prediction direction. -/
def MbFlags.predicted (m : MbFlags) : Bool := m.f || m.b

end Sys2Proof.Machine
end

