-- ==== Sys2Proof/Machine/Idct.lean ====
section
/-! DEFINITION. The inverse transforms (45_idct.md). `REF_IDCT` (R501) is exact: the cosines of R501 are `c_k / 2` with
`c_k = 2 cos(k pi / 16)`, which are integer polynomials in `p = c_1`, where `p^2 = 2 + q`, `q^2 = 2 + r`, `r^2 = 2`; sums
are kept in that ring and compared with integers exactly. `SRC_IDCT` (R502) has free constants. -/

namespace Sys2Proof.Machine

-- ---------------------------------------------------------------- the ring of the cosines

/-- `a + b * sqrt 2`. -/
structure Quad where
  a : Int
  b : Int
  deriving DecidableEq, Repr

/-- `a + b * q` with `q = sqrt (2 + sqrt 2) = 2 cos(pi / 8)`. -/
structure Oct where
  a : Quad
  b : Quad
  deriving DecidableEq, Repr

/-- `a + b * p` with `p = sqrt (2 + q) = 2 cos(pi / 16)`. -/
structure Hex where
  a : Oct
  b : Oct
  deriving DecidableEq, Repr

/-- The sum of two numbers. -/
def Quad.add (x y : Quad) : Quad := ⟨x.a + y.a, x.b + y.b⟩

/-- The product of two numbers. -/
def Quad.mul (x y : Quad) : Quad := ⟨x.a * y.a + 2 * (x.b * y.b), x.a * y.b + x.b * y.a⟩

/-- The negative of a number. -/
def Quad.neg (x : Quad) : Quad := ⟨-x.a, -x.b⟩

/-- The sum of two numbers. -/
def Oct.add (x y : Oct) : Oct := ⟨x.a.add y.a, x.b.add y.b⟩

/-- `q^2 = 2 + sqrt 2`. -/
def qSquared : Quad := ⟨2, 1⟩

/-- The product of two numbers. -/
def Oct.mul (x y : Oct) : Oct :=
  ⟨(x.a.mul y.a).add (qSquared.mul (x.b.mul y.b)), (x.a.mul y.b).add (x.b.mul y.a)⟩

/-- The negative of a number. -/
def Oct.neg (x : Oct) : Oct := ⟨x.a.neg, x.b.neg⟩

/-- The sum of two numbers. -/
def Hex.add (x y : Hex) : Hex := ⟨x.a.add y.a, x.b.add y.b⟩

/-- `p^2 = 2 + q`. -/
def pSquared : Oct := ⟨⟨2, 0⟩, ⟨1, 0⟩⟩

/-- The product of two numbers. -/
def Hex.mul (x y : Hex) : Hex :=
  ⟨(x.a.mul y.a).add (pSquared.mul (x.b.mul y.b)), (x.a.mul y.b).add (x.b.mul y.a)⟩

/-- The negative of a number. -/
def Hex.neg (x : Hex) : Hex := ⟨x.a.neg, x.b.neg⟩

/-- An integer. -/
def Hex.ofInt (n : Int) : Hex := ⟨⟨⟨n, 0⟩, ⟨0, 0⟩⟩, ⟨⟨0, 0⟩, ⟨0, 0⟩⟩⟩

/-- The sign of `a + b * sqrt d` from the signs `sa`, `sb` of `a`, `b` and the sign `sd` of `a^2 - d * b^2`. -/
def surdSign (sa sb sd : Int) : Int :=
  if sa = 0 then sb
  else if sb = 0 then sa
  else if sa = sb then sa
  else sa * sd

/-- The sign of a number: -1, 0 or 1. -/
def Quad.sign (x : Quad) : Int := surdSign x.a.sign x.b.sign (x.a * x.a - 2 * (x.b * x.b)).sign

/-- The sign of a number. -/
def Oct.sign (x : Oct) : Int :=
  surdSign x.a.sign x.b.sign ((x.a.mul x.a).add (qSquared.mul (x.b.mul x.b)).neg).sign

/-- The sign of a number. -/
def Hex.sign (x : Hex) : Int :=
  surdSign x.a.sign x.b.sign ((x.a.mul x.a).add (pSquared.mul (x.b.mul x.b)).neg).sign

/-- `2 cos(k pi / 16)` for `k` from 0 to 8. -/
def cosTab : List Hex :=
  [ Hex.ofInt 2,
    ⟨⟨⟨0, 0⟩, ⟨0, 0⟩⟩, ⟨⟨1, 0⟩, ⟨0, 0⟩⟩⟩,
    ⟨⟨⟨0, 0⟩, ⟨1, 0⟩⟩, ⟨⟨0, 0⟩, ⟨0, 0⟩⟩⟩,
    ⟨⟨⟨0, 0⟩, ⟨0, 0⟩⟩, ⟨⟨-1, 0⟩, ⟨1, 0⟩⟩⟩,
    ⟨⟨⟨0, 1⟩, ⟨0, 0⟩⟩, ⟨⟨0, 0⟩, ⟨0, 0⟩⟩⟩,
    ⟨⟨⟨0, 0⟩, ⟨0, 0⟩⟩, ⟨⟨1, 1⟩, ⟨-1, 0⟩⟩⟩,
    ⟨⟨⟨0, 0⟩, ⟨-1, 1⟩⟩, ⟨⟨0, 0⟩, ⟨0, 0⟩⟩⟩,
    ⟨⟨⟨0, 0⟩, ⟨0, 0⟩⟩, ⟨⟨-1, -1⟩, ⟨0, 1⟩⟩⟩,
    Hex.ofInt 0 ]

/-- `2 cos(k pi / 16)` for every `k`: the cosine repeats after 32, and is even and odd about its quarter points. -/
def cos16 (k : Nat) : Hex :=
  let m := k % 32
  let n := if m ≤ 16 then m else 32 - m
  if n ≤ 8 then cosTab.getD n (Hex.ofInt 0) else (cosTab.getD (16 - n) (Hex.ofInt 0)).neg

/-- `2 C(u) cos((2x + 1) u pi / 16)` (R501): `2 C(0) = sqrt 2 = 2 cos(4 pi / 16)`. -/
def basis (u x : Nat) : Hex := if u = 0 then cos16 4 else cos16 ((2 * x + 1) * u)

-- ---------------------------------------------------------------- REF_IDCT

/-- 16 times the sum of R501 at column `x`, row `y`: zero coefficients add nothing. -/
def idctSum (b : List Int) (x y : Nat) : Hex :=
  (List.range 64).foldl
    (fun acc j =>
      let f := b.getD j 0
      if f = 0 then acc
      else acc.add ((Hex.ofInt f).mul ((basis (j % 8) x).mul (basis (j / 8) y))))
    (Hex.ofInt 0)

/-- The bits of the search in `roundMag`, from 256 down. -/
def roundBits : List Nat := [256, 128, 64, 32, 16, 8, 4, 2, 1]

/-- The largest `n` up to 511 with `n - 1/2 ≤ h / 16`, for `h ≥ 0`: `floor(h / 16 + 1/2)` where that is at most 511. -/
def roundMag (h : Hex) : Nat :=
  roundBits.foldl
    (fun n b => if 0 ≤ (h.add (Hex.ofInt (8 - 16 * ((n + b : Nat) : Int)))).sign then n + b else n) 0

/-- `clamp(-256, 255, roundHalfAway(h / 16))` (R501). -/
def roundClamp (h : Hex) : Int :=
  if 0 ≤ h.sign then clampInt (-256) 255 (roundMag h) else clampInt (-256) 255 (-(roundMag h.neg : Int))

/-- `REF_IDCT` (R501). -/
def refIdct (b : List Int) : List Int :=
  (List.range 64).map fun j => roundClamp (idctSum b (j % 8) (j / 8))

-- ---------------------------------------------------------------- SRC_IDCT

/-- The row pass of `SRC_IDCT` (R502) at row `v`, column `x`. -/
def srcRow (b : List Int) (v x : Nat) : Int :=
  (((List.range 8).map fun u => Config.srcRowTab (Config.srcRowSet v) x u * b.getD (8 * v + u) 0).sum
    + Config.srcRoundR) / 2 ^ 11

/-- The column pass of `SRC_IDCT` (R502) at column `x`, row `y`. -/
def srcColumn (b : List Int) (x y : Nat) : Int :=
  (Config.srcButterfly ((List.range 8).map fun v => srcRow b v x) y + Config.srcRoundC) / 2 ^ 6

/-- Whether every coefficient but the first is zero. -/
def dcOnly (b : List Int) : Bool := (b.drop 1).all (· == 0)

/-- `SRC_IDCT` (R502): the open constants are free, and the properties R503, R504 and R505 demand hold (log entry 9). -/
def srcIdct (b : List Int) : List Int :=
  let d := b.getD 0 0
  (List.range 64).map fun j =>
    if dcOnly b && decide (d % 8 = 0) && decide (d.natAbs ≤ 2040) then d / 8
    else clampInt (-256) 255 (srcColumn b (j % 8) (j / 8))

/-- `P_IDCT` (R500). -/
def idct (k : IdctKind) (b : List Int) : List Int :=
  match k with
  | .refIdct => refIdct b
  | .srcIdct => srcIdct b

end Sys2Proof.Machine
end

