-- ==== Sys2Proof/Machine/MotionComp.lean ====
section
/-! DEFINITION. Motion compensation and reconstruction (46_motion_comp.md). -/

namespace Sys2Proof.Machine

-- ---------------------------------------------------------------- prediction blocks

/-- `f k`, `f (k + 1)`, … : `n` values, in order, to the first fault. -/
def collect (f : Nat → Except ReadFault Nat) : Nat → Nat → Except ReadFault (List Nat)
  | _, 0 => .ok []
  | k, n + 1 => do
    let v ← f k
    let l ← collect f (k + 1) n
    return v :: l

/-- What a block is read from (R535, R107): the frame rows, or the rows of one field. -/
inductive PredMode where
  | frame
  | field (f : Bool)
  deriving DecidableEq, Repr

/-- The frame row of row `y` of the mode (R107). -/
def PredMode.row (m : PredMode) (y : Int) : Int :=
  match m with
  | .frame => y
  | .field f => 2 * y + (if f then 1 else 0)

/-- `R(a, b)` of R535. -/
def State.refRead (s : State) (ref : Fin 3) (c : Plane) (m : PredMode) (x y : Int) : Except ReadFault Nat :=
  s.planeRead ref c x (m.row y)

/-- One sample of `predBlock` (R535): the four interpolations. Only the samples a case names are read. -/
def State.predSample (s : State) (ref : Fin 3) (c : Plane) (m : PredMode) (sx sy : Int) (hx hy : Bool) :
    Except ReadFault Nat :=
  match hx, hy with
  | false, false => s.refRead ref c m sx sy
  | true, false => do
    let a ← s.refRead ref c m sx sy
    let b ← s.refRead ref c m (sx + 1) sy
    return (a + b + 1) / 2
  | false, true => do
    let a ← s.refRead ref c m sx sy
    let b ← s.refRead ref c m sx (sy + 1)
    return (a + b + 1) / 2
  | true, true => do
    let a ← s.refRead ref c m sx sy
    let b ← s.refRead ref c m (sx + 1) sy
    let d ← s.refRead ref c m sx (sy + 1)
    let e ← s.refRead ref c m (sx + 1) (sy + 1)
    return (a + b + d + e + 2) / 4

/-- `predBlock` (R535): the `w * h` samples, row by row. -/
def State.predBlock (s : State) (ref : Fin 3) (c : Plane) (w h bx by_ : Nat) (vx vy : Int) (m : PredMode) :
    Except ReadFault (List Nat) :=
  collect (fun k => s.predSample ref c m ((bx + k % w : Nat) + vx / 2) ((by_ + k / w : Nat) + vy / 2)
    (decide (vx % 2 = 1)) (decide (vy % 2 = 1))) 0 (w * h)

/-- The luma, Cb and Cr blocks of one vector, in the order of R533. `lh` is the luma block's height. -/
def State.predTriple (s : State) (ref : Fin 3) (lh bly : Nat) (vx vy : Int) (m : PredMode) :
    Except ReadFault (Triple (List Nat)) := do
  let y ← s.predBlock ref .y 16 lh (16 * s.mbx) bly vx vy m
  let cb ← s.predBlock ref .cb 8 (lh / 2) (8 * s.mbx) (bly / 2) (chromaComponent vx) (chromaComponent vy) m
  let cr ← s.predBlock ref .cr 8 (lh / 2) (8 * s.mbx) (bly / 2) (chromaComponent vx) (chromaComponent vy) m
  return ⟨y, cb, cr⟩

/-- The prediction of one direction: a frame block, or one block for each destination field (R533, R536). -/
inductive DirPred where
  | frame (p : Triple (List Nat))
  | fields (top bottom : Triple (List Nat))
  deriving DecidableEq, Repr

/-- Columns of a macroblock in plane `c`. -/
def mbPlaneWidth : Plane → Nat
  | .y => 16
  | _ => 8

/-- The sample of a direction's prediction at a row and column of the macroblock (R535: row `2 yy + dstField`). -/
def DirPred.sample (p : DirPred) (c : Plane) (row col : Nat) : Nat :=
  match p with
  | .frame t => (t.get c).getD (row * mbPlaneWidth c + col) 0
  | .fields a b => ((if row % 2 = 0 then a else b).get c).getD (row / 2 * mbPlaneWidth c + col) 0

/-- `predictDirection(s, ref)` (R533). -/
def State.predictDirection (s : State) (d : Bool) (ref : Fin 3) : Except ReadFault DirPred :=
  match s.mb.motionType with
  | .frame => do
    let p ← s.predTriple ref 16 (16 * s.mby) (s.slc.pmvAt false d false) (s.slc.pmvAt false d true) .frame
    return .frame p
  | _ => do
    let top ← s.predTriple ref 8 (8 * s.mby) (s.slc.pmvAt false d false) (s.slc.pmvAt false d true / 2)
      (.field ((s.slc.mvfs.get false).get d))
    let bottom ← s.predTriple ref 8 (8 * s.mby) (s.slc.pmvAt true d false) (s.slc.pmvAt true d true / 2)
      (.field ((s.slc.mvfs.get true).get d))
    return .fields top bottom

/-- The forward direction is predicted (R531, R537). -/
def State.predictsForward (s : State) : Bool := s.mb.mbType.f || s.pic.picture_coding_type == 2

/-- `formPredictions()` (R532): the forward and the backward prediction, each where it is formed. -/
def State.formPredictions (s : State) : Except ReadFault (Option DirPred × Option DirPred) := do
  let fwd ← if s.predictsForward then (s.predictDirection false s.inst.fwdIdx).map some else .ok none
  let bwd ← if s.mb.mbType.b then (s.predictDirection true s.inst.bwdIdx).map some else .ok none
  return (fwd, bwd)

/-- The prediction of a macroblock (R530, R545): none for an intra macroblock. -/
def State.prediction (s : State) : Except ReadFault (Option DirPred × Option DirPred) :=
  if s.mb.mbType.i then .ok (none, none) else s.formPredictions

/-- The prediction temporary at a row and column: 0 with no direction, the average of R539 with two. -/
def predAt (p : Option DirPred × Option DirPred) (c : Plane) (row col : Nat) : Nat :=
  match p with
  | (none, none) => 0
  | (some a, none) => a.sample c row col
  | (none, some b) => b.sample c row col
  | (some a, some b) => (a.sample c row col + b.sample c row col + 1) / 2

-- ---------------------------------------------------------------- reconstruction

/-- Bit `5 - i` of the coded block pattern (R50). -/
def codedBlock (cbp : BitVec 6) (i : Fin 6) : Bool := cbp.getLsbD (5 - i.val)

/-- The blocks after the inverse transform of the coded ones (R545, R500). -/
def State.residuals (s : State) : List (List Int) :=
  (List.finRange 6).map fun i =>
    let b := s.mb.blk.getD i.val []
    if codedBlock s.mb.cbp i then idct s.cfg.idct b else b

/-- `dest(i, x, y)` (R546): the row and column within the macroblock. -/
def destRowCol (dctType : Bool) (i : Fin 6) (x y : Nat) : Nat × Nat :=
  if i.val < 4 then
    (if dctType then i.val / 2 + 2 * y else 8 * (i.val / 2) + y, 8 * (i.val % 2) + x)
  else (y, x)

/-- The plane position of a row and column of the macroblock at `mba` (R546). -/
def State.planePos (s : State) (c : Plane) (row col : Nat) : Nat × Nat :=
  (mbPlaneWidth c * s.mbx + col, mbPlaneWidth c * s.mby + row)

/-- The cell `PlaneWrite` writes for sample `k = 8 y + x` of block `i` (R545). -/
def State.reconCell (s : State) (p : Option DirPred × Option DirPred) (res : List (List Int)) (i : Fin 6) (k : Nat) :
    Host.Cell :=
  let c := blockPlane i
  let rc := destRowCol s.mb.dctType i (k % 8) (k / 8)
  let pos := s.planePos c rc.1 rc.2
  (s.addr s.inst.curIdx c pos.1 pos.2, sampleByte (predAt p c rc.1 rc.2 + (res.getD i.val []).getD k 0))

/-- The 384 cells of a macroblock, in the order R545 writes them. -/
def State.reconCells (s : State) (p : Option DirPred × Option DirPred) (res : List (List Int)) : List Host.Cell :=
  (List.finRange 6).flatMap fun i => (List.range 64).map fun k => s.reconCell p res i k

/-- The frame buffers have the current geometry and `mba` is on the grid: what R545 takes for granted. -/
def State.reconReady (s : State) : Bool :=
  s.inst.allocated == some (s.width, s.height) && decide (s.slc.mba < s.mbCount)

/-- `reconstructMacroblock(mba)` (R545). -/
def State.reconstruct (s : State) : Flow :=
  if s.reconReady then
    match s.prediction with
    | .error e => .fault (e.raise s)
    | .ok p =>
      let res := s.residuals
      .go ((s.onInst fun r => { r with fb := r.fb.writeAll (s.reconCells p res) }).onMb fun m => { m with blk := res })
  else .fault (.unwritten s)

end Sys2Proof.Machine
end

