-- ==== Sys2Proof/Machine/Macroblock.lean ====
section
/-! DEFINITION. The macroblock and block decoder (44_macroblock.md, 43_block_decoder.md): the procedures between two syntax
elements, written from the last element of a macroblock back to its first. A procedure ends by making the next element due
(`setCtx`), or with an event. -/

namespace Sys2Proof.Machine

-- ---------------------------------------------------------------- the end of a macroblock

/-- The loop of R610 after a macroblock: the grid is exhausted (R616), 23 zero bits end the slice (R613), or the next address
increment is due, from 0 (R612). -/
def State.afterMacroblock (s : State) : State :=
  if s.slc.mba + 1 = s.mbCount then s.setCtx (.startCode .slices)
  else if s.peek 23 = 0 then s.setCtx (.startCode .slices)
  else (s.onSlc fun r => { r with mbaInc := 0 }).setCtx (.mba false)

/-- `prevMbType <- mbType` (R454, R452). -/
def State.keepType (s : State) : State := s.onMb fun m => { m with prevMbType := m.mbType }

/-- The end of `macroblock()` (R454): predictor resets, previous type, reconstruction. -/
def State.finishMacroblock (s : State) : Flow :=
  s.predictorResets.keepType.reconstruct.bind fun t => .go t.afterMacroblock

-- ---------------------------------------------------------------- blocks

/-- The first coded block at or after block `n` (R446). -/
def firstCoded (cbp : BitVec 6) (n : Nat) : Option (Fin 6) :=
  (List.finRange 6).find? fun i => decide (n ≤ i.val) && codedBlock cbp i

/-- The first element of block `i` (R370, R375): a DC size, or the first coefficient with `idx` at -1 (R374). -/
def State.startBlock (s : State) (i : Fin 6) : State :=
  if s.mb.mbType.i then s.setCtx (.dcSize i)
  else (s.onMb fun m => { m with coefIdx := -1 }).setCtx (.coef i true)

/-- The block loop of R454 from block `n`. -/
def State.nextBlock (s : State) (n : Nat) : Flow :=
  match firstCoded s.mb.cbp n with
  | some i => .go (s.startBlock i)
  | none => s.finishMacroblock

/-- `blk[i][j] <- v`. -/
def State.setCoef (s : State) (i : Fin 6) (j : Nat) (v : Int) : State :=
  s.onMb fun m => { m with blk := m.blk.set i.val ((m.blk.getD i.val []).set j v) }

/-- The DC of an intra block (R373, R370): the predictor accumulates, the coefficient is stored, `idx` starts at 0. -/
def State.putDc (s : State) (i : Fin 6) (diff : Int) : State :=
  let c := blockPlane i
  let dc := s.slc.dcPred.get c + diff
  ((((s.onSlc fun r => { r with dcPred := r.dcPred.set c dc }).setCoef i 0
      (dc * 2 ^ (3 - s.pic.intra_dc_precision.toNat))).onMb fun m => { m with coefIdx := 0 }).setCtx (.coef i false))

/-- The quantiser weight at raster position `j` (R379, R380). -/
def State.weight (s : State) (j : Nat) : Byte :=
  (if s.mb.mbType.i then s.seq.intraQ else s.seq.nonIntraQ).getD j 0

/-- A coefficient of block `i` (R374): `idx` advances, the index is checked, the dequantised level is written. -/
def State.putCoef (s : State) (i : Fin 6) (run : Nat) (level : Int) : Flow :=
  let idx := s.mb.coefIdx + run + 1
  let s1 := s.onMb fun m => { m with coefIdx := idx }
  if 64 ≤ idx then .corrupt .coefIndexOverflow s1
  else
    let j := scanPos s.pic.alternate_scan idx.toNat
    .go ((s1.setCoef i j (dequant s.mb.mbType.i level s.slc.quantiserScale (s.weight j))).setCtx (.coef i false))

/-- `coefControl(i)` (R381). -/
def State.coefControl (s : State) (i : Fin 6) : State :=
  match s.cfg.coefControl with
  | .none => s
  | .iso => s.onMb fun m => { m with blk := m.blk.set i.val (coefControlIso (m.blk.getD i.val [])) }

-- ---------------------------------------------------------------- pattern, marker, vectors

/-- `cbp` and the blocks (R445, R446). -/
def State.setPattern (s : State) (cbp : BitVec 6) : Flow := (s.onMb fun m => { m with cbp := cbp }).nextBlock 0

/-- After the vectors and the marker (R454): the pattern is due, or takes its default (R445). -/
def State.afterMarker (s : State) : Flow :=
  if s.mb.mbType.p then .go (s.setCtx .cbp) else s.setPattern (if s.mb.mbType.i then 63 else 0)

/-- After the vectors (R454): the marker bit of concealment vectors is due, or not. -/
def State.afterVectors (s : State) : Flow := if s.concealed then .go (s.setCtx .marker) else s.afterMarker

/-- `f_code[d][t]` (R41). -/
def State.fCode (s : State) (d t : Bool) : Nat := ((s.pic.f_code.get d).get t).toNat

/-- The check that opens a component of `motionVector(r, s)` (R437, R332); its motion code is due after it. -/
def State.enterMotion (s : State) (r d t : Bool) : Flow :=
  if s.fCode d t < 1 ∨ 9 < s.fCode d t then .corrupt .invalidFCode s else .go (s.setCtx (.motionCode r d t))

/-- `motionVectors(s)` (R436): one vector, or a field select before each of two. -/
def State.enterVectors (s : State) (d : Bool) : Flow :=
  if s.mb.mvCount = 1 then s.enterMotion false d false else .go (s.setCtx (.fieldSelect false d))

/-- After the forward vectors (R454): the backward ones when `B` is set. -/
def State.backwardVectors (s : State) : Flow := if s.mb.mbType.b then s.enterVectors true else s.afterVectors

/-- After the quantiser (R454): the forward vectors when `F` is set, or for concealment. -/
def State.forwardVectors (s : State) : Flow :=
  if s.mb.mbType.f || s.concealed then s.enterVectors false else s.backwardVectors

/-- After the vectors of direction `d`. -/
def State.vectorsDone (s : State) (d : Bool) : Flow := if d then s.afterVectors else s.backwardVectors

/-- After component `t` of vector `r` of direction `d` (R437, R436). -/
def State.afterMotion (s : State) (r d t : Bool) : Flow :=
  if t = false then s.enterMotion r d true
  else if s.mb.mvCount = 1 then (s.onSlc fun x => x.copyPmv d).vectorsDone d
  else if r = false then .go (s.setCtx (.fieldSelect true d))
  else s.vectorsDone d

/-- The full-pel flag of direction `d` (R437). -/
def State.fullPel (s : State) (d : Bool) : Bool :=
  if d then s.pic.full_pel_backward_vector else s.pic.full_pel_forward_vector

/-- The new `pmv[r][d][t]` (R437, R442): the vertical component of a field vector is halved before and doubled after. -/
def State.newVector (s : State) (r d t : Bool) (code : Int) (res : Nat) : Int :=
  let rs := s.fCode d t - 1
  let old := s.slc.pmvAt r d t
  if t && s.mb.mvScale then decodeVector (old / 2) code res rs (s.fullPel d) * 2
  else decodeVector old code res rs (s.fullPel d)

/-- A motion code of magnitude `m` (R237, R437): its sign bit and its residual are read, the predictor is updated. -/
def State.motionCode (s : State) (r d t : Bool) (m : Nat) : Flow :=
  let sign := if m = 0 then (0, s) else s.getBits 1
  let rs := s.fCode d t - 1
  let res := if m = 0 ∨ rs = 0 then (0, sign.2) else sign.2.getBits rs
  let v := s.newVector r d t (signed (decide (sign.1 = 1)) m) res.1
  (res.2.onSlc fun x => x.setPmv r d t v).afterMotion r d t

-- ---------------------------------------------------------------- quantiser and modes

/-- The quantiser registers of a code other than 0 (R434, R340). -/
def State.setQuant (s : State) (q : BitVec 5) : State :=
  s.onSlc fun r => { r with quantiser_scale_code := q, quantiserScale := qmap s.pic.q_scale_type q.toNat }

/-- After the modes (R454): the quantiser is due when `Q` is set. -/
def State.afterModes (s : State) : Flow := if s.mb.mbType.q then .go (s.setCtx .mbQuant) else s.forwardVectors

/-- `macroblockModes()`, part 2 (R431). -/
def State.setMotionType (s : State) (t : MotionType) : Flow :=
  let s1 := s.onMb fun m => m.setModes t
  if (s1.mb.mbType.i || s1.mb.mbType.p) && !s1.pic.frame_pred_frame_dct then .go (s1.setCtx .dctType)
  else s1.afterModes

/-- `macroblockModes()`, part 1 (R430), once the type is known. -/
def State.setType (s : State) (f : MbFlags) : Flow :=
  let s1 := s.onMb fun m => { m with mbType := f }
  if f.f || f.b then
    if s1.pic.frame_pred_frame_dct then s1.setMotionType .frame else .go (s1.setCtx .frameMotionType)
  else if s1.concealed then s1.setMotionType .frame
  else s1.setMotionType .none

/-- The start of `macroblock()` (R454): the blocks are zeroed, the type is due. -/
def State.startMacroblock (s : State) : State := (s.onMb fun m => { m with blk := zeroBlk }).setCtx .mbType

-- ---------------------------------------------------------------- address increments and skipped macroblocks

/-- The end of `skippedMacroblock()` (R452). -/
def State.finishSkipped (s : State) (f : MbFlags) : Flow :=
  (s.onMb fun m => { m with mbType := f }).keepType.reconstruct

/-- `skippedMacroblock()` (R452). -/
def State.skippedMacroblock (s : State) : Flow :=
  let s1 := (s.onMb fun m => { m with blk := zeroBlk, cbp := 0 }).resetDcPred.onMb fun m => m.setModes .frame
  if s.pic.picture_coding_type = 2 then
    (s1.onSlc fun r => { r with pmv := zeroForwardPmv r.pmv }).finishSkipped ⟨false, true, false, false, false⟩
  else if s.pic.picture_coding_type = 3 then
    let f := s.mb.prevMbType.directions
    if f.predicted then s1.finishSkipped f
    else .corrupt .skipWithoutPrediction (s1.onMb fun m => { m with mbType := f })
  else .corrupt .skipWithoutPrediction s1

/-- `mba <- mba + 1`; one position fewer is left of the increment (R614, R44). -/
def State.advance (s : State) : State := s.onSlc fun r => { r with mba := r.mba + 1, mbaInc := r.mbaInc - 1 }

/-- `n` skipped macroblocks (R614). -/
def State.skipRun : Nat → State → Flow
  | 0, s => .go s
  | n + 1, s => s.advance.skippedMacroblock.bind (State.skipRun n)

/-- `firstMacroblock()` with the increment `mbaInc` (R611): an absolute column of the slice's row. -/
def State.firstMacroblock (s : State) : Flow :=
  let a := s.slc.sliceRow * s.mbWidth + s.slc.mbaInc - 1
  if s.mbHeight ≤ s.slc.sliceRow ∨ s.mbCount ≤ a then .corrupt .mbAddressOverflow s
  else .go (s.onSlc fun r => { r with mba := a, mbaInc := 0 }).startMacroblock

/-- `nextMacroblocks()` with the increment `mbaInc` (R614). -/
def State.nextMacroblocks (s : State) : Flow :=
  if s.mbCount ≤ s.slc.mba + s.slc.mbaInc then .corrupt .mbAddressOverflow s
  else (State.skipRun (s.slc.mbaInc - 1) s).bind fun t => .go t.advance.startMacroblock

-- ---------------------------------------------------------------- the elements

/-- An address increment of value `v` (R612): it ends the increment. -/
def mbaCode (len v : Nat) (s : State) : Flow :=
  match s.ctx with
  | .mba first =>
    let s1 := (s.consume len).onSlc fun r => { r with mbaInc := r.mbaInc + v }
    if first then s1.firstMacroblock else s1.nextMacroblocks
  | _ => .fault .outOfContext

/-- The escape of the address increment (R612): 33 more, and another code word. -/
def mbaEscape (len : Nat) (s : State) : Flow :=
  match s.ctx with
  | .mba _ => .go ((s.consume len).onSlc fun r => { r with mbaInc := r.mbaInc + 33 })
  | _ => .fault .outOfContext

/-- A macroblock type (R430). -/
def typeCode (len : Nat) (f : MbFlags) (s : State) : Flow :=
  match s.ctx with
  | .mbType => (s.consume len).setType f
  | _ => .fault .outOfContext

/-- `frame_motion_type` (R430). -/
def motionTypeField (m : BitVec 2) (s : State) : Flow :=
  match s.ctx with
  | .frameMotionType =>
    let s1 := s.consume 2
    if m = 0 then .corrupt .reservedMotionType s1
    else if m = 3 then .refuse (.dualPrime s1)
    else s1.setMotionType (if m = 1 then .field else .frame)
  | _ => .fault .outOfContext

/-- `dct_type` (R431). -/
def dctTypeField (t : Bool) (s : State) : Flow :=
  match s.ctx with
  | .dctType => ((s.consume 1).onMb fun m => { m with dctType := t }).afterModes
  | _ => .fault .outOfContext

/-- `quantiser_scale_code` of a macroblock (R434). -/
def mbQuantField (q : BitVec 5) (s : State) : Flow :=
  match s.ctx with
  | .mbQuant =>
    let s1 := s.consume 5
    if q = 0 then .corrupt .forbiddenQuant s1 else (s1.setQuant q).forwardVectors
  | _ => .fault .outOfContext

/-- `motion_vertical_field_select` (R436, R440). -/
def fieldSelectField (f : Bool) (s : State) : Flow :=
  match s.ctx with
  | .fieldSelect r d => ((s.consume 1).onSlc fun x => x.setMvfs r d f).enterMotion r d false
  | _ => .fault .outOfContext

/-- A motion code word of magnitude `m` (R237). -/
def mvCode (len m : Nat) (s : State) : Flow :=
  match s.ctx with
  | .motionCode r d t => (s.consume len).motionCode r d t m
  | _ => .fault .outOfContext

/-- The marker bit after concealment vectors (R454, R444): not checked (D29). -/
def markerField (s : State) : Flow :=
  match s.ctx with
  | .marker => (s.consume 1).afterMarker
  | _ => .fault .outOfContext

/-- A coded block pattern (R445). -/
def cbpCode (len : Nat) (v : BitVec 6) (s : State) : Flow :=
  match s.ctx with
  | .cbp => (s.consume len).setPattern v
  | _ => .fault .outOfContext

/-- A DC size (R372): 0 is a differential of 0, any other makes that many bits due. -/
def dcSizeCode (len size : Nat) (s : State) : Flow :=
  match s.ctx with
  | .dcSize i =>
    let s1 := s.consume len
    .go (if size = 0 then s1.putDc i 0 else s1.setCtx (.dcDiff i size))
  | _ => .fault .outOfContext

/-- A DC differential (R372, R373). -/
def dcDiffField (size v : Nat) (s : State) : Flow :=
  match s.ctx with
  | .dcDiff i n => if n = size then .go ((s.consume size).putDc i (dcValue size v)) else .fault .outOfContext
  | _ => .fault .outOfContext

/-- A coefficient code word of `len` bits and its sign bit (R374). -/
def coefCode (len run level : Nat) (sign : Bool) (s : State) : Flow :=
  match s.ctx with
  | .coef i _ => (s.consume (len + 1)).putCoef i run (signed sign level)
  | _ => .fault .outOfContext

/-- An escaped coefficient (R243, R378). -/
def escapeCode (len : Nat) (run : BitVec 6) (level : BitVec 12) (s : State) : Flow :=
  match s.ctx with
  | .coef i _ =>
    let s1 := s.consume (len + 18)
    if forbiddenEscape level then .corrupt .invalidEscape s1 else s1.putCoef i run.toNat (escapeLevel level)
  | _ => .fault .outOfContext

/-- End of block (R244): coefficient control, then the next coded block. -/
def endOfBlock (len : Nat) (s : State) : Flow :=
  match s.ctx with
  | .coef i _ => ((s.consume len).coefControl i).nextBlock (i.val + 1)
  | _ => .fault .outOfContext

end Sys2Proof.Machine
end

