-- ==== Sys2Proof/Machine/CbpCodes.lean ====
section
/-! DEFINITION. The meanings of the coded block patterns (B-9, R236): one definition for each
row of the opcode table. -/

namespace Sys2Proof.Machine

/-- `CBP 60`: R236, R445. -/
def exec_CBP_60 (st : State) : Host.Outcome State Fault Refusal :=
  (cbpCode 3 60 st).finish

/-- `CBP 32`: R236, R445. -/
def exec_CBP_32 (st : State) : Host.Outcome State Fault Refusal :=
  (cbpCode 4 32 st).finish

/-- `CBP 16`: R236, R445. -/
def exec_CBP_16 (st : State) : Host.Outcome State Fault Refusal :=
  (cbpCode 4 16 st).finish

/-- `CBP 8`: R236, R445. -/
def exec_CBP_8 (st : State) : Host.Outcome State Fault Refusal :=
  (cbpCode 4 8 st).finish

/-- `CBP 4`: R236, R445. -/
def exec_CBP_4 (st : State) : Host.Outcome State Fault Refusal :=
  (cbpCode 4 4 st).finish

/-- `CBP 62`: R236, R445. -/
def exec_CBP_62 (st : State) : Host.Outcome State Fault Refusal :=
  (cbpCode 5 62 st).finish

/-- `CBP 2`: R236, R445. -/
def exec_CBP_2 (st : State) : Host.Outcome State Fault Refusal :=
  (cbpCode 5 2 st).finish

/-- `CBP 61`: R236, R445. -/
def exec_CBP_61 (st : State) : Host.Outcome State Fault Refusal :=
  (cbpCode 5 61 st).finish

/-- `CBP 1`: R236, R445. -/
def exec_CBP_1 (st : State) : Host.Outcome State Fault Refusal :=
  (cbpCode 5 1 st).finish

/-- `CBP 56`: R236, R445. -/
def exec_CBP_56 (st : State) : Host.Outcome State Fault Refusal :=
  (cbpCode 5 56 st).finish

/-- `CBP 52`: R236, R445. -/
def exec_CBP_52 (st : State) : Host.Outcome State Fault Refusal :=
  (cbpCode 5 52 st).finish

/-- `CBP 44`: R236, R445. -/
def exec_CBP_44 (st : State) : Host.Outcome State Fault Refusal :=
  (cbpCode 5 44 st).finish

/-- `CBP 28`: R236, R445. -/
def exec_CBP_28 (st : State) : Host.Outcome State Fault Refusal :=
  (cbpCode 5 28 st).finish

/-- `CBP 40`: R236, R445. -/
def exec_CBP_40 (st : State) : Host.Outcome State Fault Refusal :=
  (cbpCode 5 40 st).finish

/-- `CBP 20`: R236, R445. -/
def exec_CBP_20 (st : State) : Host.Outcome State Fault Refusal :=
  (cbpCode 5 20 st).finish

/-- `CBP 48`: R236, R445. -/
def exec_CBP_48 (st : State) : Host.Outcome State Fault Refusal :=
  (cbpCode 5 48 st).finish

/-- `CBP 12`: R236, R445. -/
def exec_CBP_12 (st : State) : Host.Outcome State Fault Refusal :=
  (cbpCode 5 12 st).finish

/-- `CBP 63`: R236, R445. -/
def exec_CBP_63 (st : State) : Host.Outcome State Fault Refusal :=
  (cbpCode 6 63 st).finish

/-- `CBP 3`: R236, R445. -/
def exec_CBP_3 (st : State) : Host.Outcome State Fault Refusal :=
  (cbpCode 6 3 st).finish

/-- `CBP 36`: R236, R445. -/
def exec_CBP_36 (st : State) : Host.Outcome State Fault Refusal :=
  (cbpCode 6 36 st).finish

/-- `CBP 24`: R236, R445. -/
def exec_CBP_24 (st : State) : Host.Outcome State Fault Refusal :=
  (cbpCode 6 24 st).finish

/-- `CBP 34`: R236, R445. -/
def exec_CBP_34 (st : State) : Host.Outcome State Fault Refusal :=
  (cbpCode 7 34 st).finish

/-- `CBP 18`: R236, R445. -/
def exec_CBP_18 (st : State) : Host.Outcome State Fault Refusal :=
  (cbpCode 7 18 st).finish

/-- `CBP 10`: R236, R445. -/
def exec_CBP_10 (st : State) : Host.Outcome State Fault Refusal :=
  (cbpCode 7 10 st).finish

/-- `CBP 6`: R236, R445. -/
def exec_CBP_6 (st : State) : Host.Outcome State Fault Refusal :=
  (cbpCode 7 6 st).finish

/-- `CBP 33`: R236, R445. -/
def exec_CBP_33 (st : State) : Host.Outcome State Fault Refusal :=
  (cbpCode 7 33 st).finish

/-- `CBP 17`: R236, R445. -/
def exec_CBP_17 (st : State) : Host.Outcome State Fault Refusal :=
  (cbpCode 7 17 st).finish

/-- `CBP 9`: R236, R445. -/
def exec_CBP_9 (st : State) : Host.Outcome State Fault Refusal :=
  (cbpCode 7 9 st).finish

/-- `CBP 5`: R236, R445. -/
def exec_CBP_5 (st : State) : Host.Outcome State Fault Refusal :=
  (cbpCode 7 5 st).finish

/-- `CBP 58`: R236, R445. -/
def exec_CBP_58 (st : State) : Host.Outcome State Fault Refusal :=
  (cbpCode 8 58 st).finish

/-- `CBP 54`: R236, R445. -/
def exec_CBP_54 (st : State) : Host.Outcome State Fault Refusal :=
  (cbpCode 8 54 st).finish

/-- `CBP 46`: R236, R445. -/
def exec_CBP_46 (st : State) : Host.Outcome State Fault Refusal :=
  (cbpCode 8 46 st).finish

/-- `CBP 30`: R236, R445. -/
def exec_CBP_30 (st : State) : Host.Outcome State Fault Refusal :=
  (cbpCode 8 30 st).finish

/-- `CBP 57`: R236, R445. -/
def exec_CBP_57 (st : State) : Host.Outcome State Fault Refusal :=
  (cbpCode 8 57 st).finish

/-- `CBP 53`: R236, R445. -/
def exec_CBP_53 (st : State) : Host.Outcome State Fault Refusal :=
  (cbpCode 8 53 st).finish

/-- `CBP 45`: R236, R445. -/
def exec_CBP_45 (st : State) : Host.Outcome State Fault Refusal :=
  (cbpCode 8 45 st).finish

/-- `CBP 29`: R236, R445. -/
def exec_CBP_29 (st : State) : Host.Outcome State Fault Refusal :=
  (cbpCode 8 29 st).finish

/-- `CBP 38`: R236, R445. -/
def exec_CBP_38 (st : State) : Host.Outcome State Fault Refusal :=
  (cbpCode 8 38 st).finish

/-- `CBP 26`: R236, R445. -/
def exec_CBP_26 (st : State) : Host.Outcome State Fault Refusal :=
  (cbpCode 8 26 st).finish

/-- `CBP 37`: R236, R445. -/
def exec_CBP_37 (st : State) : Host.Outcome State Fault Refusal :=
  (cbpCode 8 37 st).finish

/-- `CBP 25`: R236, R445. -/
def exec_CBP_25 (st : State) : Host.Outcome State Fault Refusal :=
  (cbpCode 8 25 st).finish

/-- `CBP 43`: R236, R445. -/
def exec_CBP_43 (st : State) : Host.Outcome State Fault Refusal :=
  (cbpCode 8 43 st).finish

/-- `CBP 23`: R236, R445. -/
def exec_CBP_23 (st : State) : Host.Outcome State Fault Refusal :=
  (cbpCode 8 23 st).finish

/-- `CBP 51`: R236, R445. -/
def exec_CBP_51 (st : State) : Host.Outcome State Fault Refusal :=
  (cbpCode 8 51 st).finish

/-- `CBP 15`: R236, R445. -/
def exec_CBP_15 (st : State) : Host.Outcome State Fault Refusal :=
  (cbpCode 8 15 st).finish

/-- `CBP 42`: R236, R445. -/
def exec_CBP_42 (st : State) : Host.Outcome State Fault Refusal :=
  (cbpCode 8 42 st).finish

/-- `CBP 22`: R236, R445. -/
def exec_CBP_22 (st : State) : Host.Outcome State Fault Refusal :=
  (cbpCode 8 22 st).finish

/-- `CBP 50`: R236, R445. -/
def exec_CBP_50 (st : State) : Host.Outcome State Fault Refusal :=
  (cbpCode 8 50 st).finish

/-- `CBP 14`: R236, R445. -/
def exec_CBP_14 (st : State) : Host.Outcome State Fault Refusal :=
  (cbpCode 8 14 st).finish

/-- `CBP 41`: R236, R445. -/
def exec_CBP_41 (st : State) : Host.Outcome State Fault Refusal :=
  (cbpCode 8 41 st).finish

/-- `CBP 21`: R236, R445. -/
def exec_CBP_21 (st : State) : Host.Outcome State Fault Refusal :=
  (cbpCode 8 21 st).finish

/-- `CBP 49`: R236, R445. -/
def exec_CBP_49 (st : State) : Host.Outcome State Fault Refusal :=
  (cbpCode 8 49 st).finish

/-- `CBP 13`: R236, R445. -/
def exec_CBP_13 (st : State) : Host.Outcome State Fault Refusal :=
  (cbpCode 8 13 st).finish

/-- `CBP 35`: R236, R445. -/
def exec_CBP_35 (st : State) : Host.Outcome State Fault Refusal :=
  (cbpCode 8 35 st).finish

/-- `CBP 19`: R236, R445. -/
def exec_CBP_19 (st : State) : Host.Outcome State Fault Refusal :=
  (cbpCode 8 19 st).finish

/-- `CBP 11`: R236, R445. -/
def exec_CBP_11 (st : State) : Host.Outcome State Fault Refusal :=
  (cbpCode 8 11 st).finish

/-- `CBP 7`: R236, R445. -/
def exec_CBP_7 (st : State) : Host.Outcome State Fault Refusal :=
  (cbpCode 8 7 st).finish

/-- `CBP 0`: R236, R445. -/
def exec_CBP_0 (st : State) : Host.Outcome State Fault Refusal :=
  (cbpCode 9 0 st).finish

/-- `CBP 39`: R236, R445. -/
def exec_CBP_39 (st : State) : Host.Outcome State Fault Refusal :=
  (cbpCode 9 39 st).finish

/-- `CBP 27`: R236, R445. -/
def exec_CBP_27 (st : State) : Host.Outcome State Fault Refusal :=
  (cbpCode 9 27 st).finish

/-- `CBP 59`: R236, R445. -/
def exec_CBP_59 (st : State) : Host.Outcome State Fault Refusal :=
  (cbpCode 9 59 st).finish

/-- `CBP 55`: R236, R445. -/
def exec_CBP_55 (st : State) : Host.Outcome State Fault Refusal :=
  (cbpCode 9 55 st).finish

/-- `CBP 47`: R236, R445. -/
def exec_CBP_47 (st : State) : Host.Outcome State Fault Refusal :=
  (cbpCode 9 47 st).finish

/-- `CBP 31`: R236, R445. -/
def exec_CBP_31 (st : State) : Host.Outcome State Fault Refusal :=
  (cbpCode 9 31 st).finish

end Sys2Proof.Machine
end

