-- ==== Sys2Proof/Machine/DcCodes.lean ====
section
/-! DEFINITION. The meanings of the DC sizes (B-12 and B-13, R238, R239): one definition for each
row of the opcode table. -/

namespace Sys2Proof.Machine

/-- `DCL 1`: R238, R372. -/
def exec_DCL_1 (st : State) : Host.Outcome State Fault Refusal :=
  (dcSizeCode 2 1 st).finish

/-- `DCL 2`: R238, R372. -/
def exec_DCL_2 (st : State) : Host.Outcome State Fault Refusal :=
  (dcSizeCode 2 2 st).finish

/-- `DCL 0`: R238, R372. -/
def exec_DCL_0 (st : State) : Host.Outcome State Fault Refusal :=
  (dcSizeCode 3 0 st).finish

/-- `DCL 3`: R238, R372. -/
def exec_DCL_3 (st : State) : Host.Outcome State Fault Refusal :=
  (dcSizeCode 3 3 st).finish

/-- `DCL 4`: R238, R372. -/
def exec_DCL_4 (st : State) : Host.Outcome State Fault Refusal :=
  (dcSizeCode 3 4 st).finish

/-- `DCL 5`: R238, R372. -/
def exec_DCL_5 (st : State) : Host.Outcome State Fault Refusal :=
  (dcSizeCode 4 5 st).finish

/-- `DCL 6`: R238, R372. -/
def exec_DCL_6 (st : State) : Host.Outcome State Fault Refusal :=
  (dcSizeCode 5 6 st).finish

/-- `DCL 7`: R238, R372. -/
def exec_DCL_7 (st : State) : Host.Outcome State Fault Refusal :=
  (dcSizeCode 6 7 st).finish

/-- `DCL 8`: R238, R372. -/
def exec_DCL_8 (st : State) : Host.Outcome State Fault Refusal :=
  (dcSizeCode 7 8 st).finish

/-- `DCL 9`: R238, R372. -/
def exec_DCL_9 (st : State) : Host.Outcome State Fault Refusal :=
  (dcSizeCode 8 9 st).finish

/-- `DCL 10`: R238, R372. -/
def exec_DCL_10 (st : State) : Host.Outcome State Fault Refusal :=
  (dcSizeCode 9 10 st).finish

/-- `DCL 11`: R238, R372. -/
def exec_DCL_11 (st : State) : Host.Outcome State Fault Refusal :=
  (dcSizeCode 9 11 st).finish

/-- `DCC 0`: R239, R372. -/
def exec_DCC_0 (st : State) : Host.Outcome State Fault Refusal :=
  (dcSizeCode 2 0 st).finish

/-- `DCC 1`: R239, R372. -/
def exec_DCC_1 (st : State) : Host.Outcome State Fault Refusal :=
  (dcSizeCode 2 1 st).finish

/-- `DCC 2`: R239, R372. -/
def exec_DCC_2 (st : State) : Host.Outcome State Fault Refusal :=
  (dcSizeCode 2 2 st).finish

/-- `DCC 3`: R239, R372. -/
def exec_DCC_3 (st : State) : Host.Outcome State Fault Refusal :=
  (dcSizeCode 3 3 st).finish

/-- `DCC 4`: R239, R372. -/
def exec_DCC_4 (st : State) : Host.Outcome State Fault Refusal :=
  (dcSizeCode 4 4 st).finish

/-- `DCC 5`: R239, R372. -/
def exec_DCC_5 (st : State) : Host.Outcome State Fault Refusal :=
  (dcSizeCode 5 5 st).finish

/-- `DCC 6`: R239, R372. -/
def exec_DCC_6 (st : State) : Host.Outcome State Fault Refusal :=
  (dcSizeCode 6 6 st).finish

/-- `DCC 7`: R239, R372. -/
def exec_DCC_7 (st : State) : Host.Outcome State Fault Refusal :=
  (dcSizeCode 7 7 st).finish

/-- `DCC 8`: R239, R372. -/
def exec_DCC_8 (st : State) : Host.Outcome State Fault Refusal :=
  (dcSizeCode 8 8 st).finish

/-- `DCC 9`: R239, R372. -/
def exec_DCC_9 (st : State) : Host.Outcome State Fault Refusal :=
  (dcSizeCode 9 9 st).finish

/-- `DCC 10`: R239, R372. -/
def exec_DCC_10 (st : State) : Host.Outcome State Fault Refusal :=
  (dcSizeCode 10 10 st).finish

/-- `DCC 11`: R239, R372. -/
def exec_DCC_11 (st : State) : Host.Outcome State Fault Refusal :=
  (dcSizeCode 10 11 st).finish

end Sys2Proof.Machine
end

