-- ==== Sys2Proof/Machine/Dct0Codes.lean ====
section
/-! DEFINITION. The meanings of the DCT coefficients table zero (B-14, R240, R241): one definition for each
row of the opcode table. -/

namespace Sys2Proof.Machine

/-- `DCT0 EOB`: R244. -/
def exec_DCT0_EOB (st : State) : Host.Outcome State Fault Refusal :=
  (endOfBlock 2 st).finish

/-- `DCT0 (0,1)`: R240, R374. -/
def exec_DCT0_0_1 (s : Bool) (st : State) : Host.Outcome State Fault Refusal :=
  (coefCode 2 0 1 s st).finish

/-- `DCT0 (1,1)`: R240, R374. -/
def exec_DCT0_1_1 (s : Bool) (st : State) : Host.Outcome State Fault Refusal :=
  (coefCode 3 1 1 s st).finish

/-- `DCT0 (0,2)`: R240, R374. -/
def exec_DCT0_0_2 (s : Bool) (st : State) : Host.Outcome State Fault Refusal :=
  (coefCode 4 0 2 s st).finish

/-- `DCT0 (2,1)`: R240, R374. -/
def exec_DCT0_2_1 (s : Bool) (st : State) : Host.Outcome State Fault Refusal :=
  (coefCode 4 2 1 s st).finish

/-- `DCT0 (0,3)`: R240, R374. -/
def exec_DCT0_0_3 (s : Bool) (st : State) : Host.Outcome State Fault Refusal :=
  (coefCode 5 0 3 s st).finish

/-- `DCT0 (4,1)`: R240, R374. -/
def exec_DCT0_4_1 (s : Bool) (st : State) : Host.Outcome State Fault Refusal :=
  (coefCode 5 4 1 s st).finish

/-- `DCT0 (3,1)`: R240, R374. -/
def exec_DCT0_3_1 (s : Bool) (st : State) : Host.Outcome State Fault Refusal :=
  (coefCode 5 3 1 s st).finish

/-- `DCT0 ESC`: R243, R378. -/
def exec_DCT0_ESC (run : BitVec 6) (level : BitVec 12) (st : State) : Host.Outcome State Fault Refusal :=
  (escapeCode 6 run level st).finish

/-- `DCT0 (7,1)`: R240, R374. -/
def exec_DCT0_7_1 (s : Bool) (st : State) : Host.Outcome State Fault Refusal :=
  (coefCode 6 7 1 s st).finish

/-- `DCT0 (6,1)`: R240, R374. -/
def exec_DCT0_6_1 (s : Bool) (st : State) : Host.Outcome State Fault Refusal :=
  (coefCode 6 6 1 s st).finish

/-- `DCT0 (1,2)`: R240, R374. -/
def exec_DCT0_1_2 (s : Bool) (st : State) : Host.Outcome State Fault Refusal :=
  (coefCode 6 1 2 s st).finish

/-- `DCT0 (5,1)`: R240, R374. -/
def exec_DCT0_5_1 (s : Bool) (st : State) : Host.Outcome State Fault Refusal :=
  (coefCode 6 5 1 s st).finish

/-- `DCT0 (2,2)`: R240, R374. -/
def exec_DCT0_2_2 (s : Bool) (st : State) : Host.Outcome State Fault Refusal :=
  (coefCode 7 2 2 s st).finish

/-- `DCT0 (9,1)`: R240, R374. -/
def exec_DCT0_9_1 (s : Bool) (st : State) : Host.Outcome State Fault Refusal :=
  (coefCode 7 9 1 s st).finish

/-- `DCT0 (0,4)`: R240, R374. -/
def exec_DCT0_0_4 (s : Bool) (st : State) : Host.Outcome State Fault Refusal :=
  (coefCode 7 0 4 s st).finish

/-- `DCT0 (8,1)`: R240, R374. -/
def exec_DCT0_8_1 (s : Bool) (st : State) : Host.Outcome State Fault Refusal :=
  (coefCode 7 8 1 s st).finish

/-- `DCT0 (13,1)`: R240, R374. -/
def exec_DCT0_13_1 (s : Bool) (st : State) : Host.Outcome State Fault Refusal :=
  (coefCode 8 13 1 s st).finish

/-- `DCT0 (0,6)`: R240, R374. -/
def exec_DCT0_0_6 (s : Bool) (st : State) : Host.Outcome State Fault Refusal :=
  (coefCode 8 0 6 s st).finish

/-- `DCT0 (12,1)`: R240, R374. -/
def exec_DCT0_12_1 (s : Bool) (st : State) : Host.Outcome State Fault Refusal :=
  (coefCode 8 12 1 s st).finish

/-- `DCT0 (11,1)`: R240, R374. -/
def exec_DCT0_11_1 (s : Bool) (st : State) : Host.Outcome State Fault Refusal :=
  (coefCode 8 11 1 s st).finish

/-- `DCT0 (3,2)`: R240, R374. -/
def exec_DCT0_3_2 (s : Bool) (st : State) : Host.Outcome State Fault Refusal :=
  (coefCode 8 3 2 s st).finish

/-- `DCT0 (1,3)`: R240, R374. -/
def exec_DCT0_1_3 (s : Bool) (st : State) : Host.Outcome State Fault Refusal :=
  (coefCode 8 1 3 s st).finish

/-- `DCT0 (0,5)`: R240, R374. -/
def exec_DCT0_0_5 (s : Bool) (st : State) : Host.Outcome State Fault Refusal :=
  (coefCode 8 0 5 s st).finish

/-- `DCT0 (10,1)`: R240, R374. -/
def exec_DCT0_10_1 (s : Bool) (st : State) : Host.Outcome State Fault Refusal :=
  (coefCode 8 10 1 s st).finish

/-- `DCT0 (16,1)`: R240, R374. -/
def exec_DCT0_16_1 (s : Bool) (st : State) : Host.Outcome State Fault Refusal :=
  (coefCode 10 16 1 s st).finish

/-- `DCT0 (5,2)`: R240, R374. -/
def exec_DCT0_5_2 (s : Bool) (st : State) : Host.Outcome State Fault Refusal :=
  (coefCode 10 5 2 s st).finish

/-- `DCT0 (0,7)`: R240, R374. -/
def exec_DCT0_0_7 (s : Bool) (st : State) : Host.Outcome State Fault Refusal :=
  (coefCode 10 0 7 s st).finish

/-- `DCT0 (2,3)`: R240, R374. -/
def exec_DCT0_2_3 (s : Bool) (st : State) : Host.Outcome State Fault Refusal :=
  (coefCode 10 2 3 s st).finish

/-- `DCT0 (1,4)`: R240, R374. -/
def exec_DCT0_1_4 (s : Bool) (st : State) : Host.Outcome State Fault Refusal :=
  (coefCode 10 1 4 s st).finish

/-- `DCT0 (15,1)`: R240, R374. -/
def exec_DCT0_15_1 (s : Bool) (st : State) : Host.Outcome State Fault Refusal :=
  (coefCode 10 15 1 s st).finish

/-- `DCT0 (14,1)`: R240, R374. -/
def exec_DCT0_14_1 (s : Bool) (st : State) : Host.Outcome State Fault Refusal :=
  (coefCode 10 14 1 s st).finish

/-- `DCT0 (4,2)`: R240, R374. -/
def exec_DCT0_4_2 (s : Bool) (st : State) : Host.Outcome State Fault Refusal :=
  (coefCode 10 4 2 s st).finish

/-- `DCT0 (0,11)`: R240, R374. -/
def exec_DCT0_0_11 (s : Bool) (st : State) : Host.Outcome State Fault Refusal :=
  (coefCode 12 0 11 s st).finish

/-- `DCT0 (8,2)`: R240, R374. -/
def exec_DCT0_8_2 (s : Bool) (st : State) : Host.Outcome State Fault Refusal :=
  (coefCode 12 8 2 s st).finish

/-- `DCT0 (4,3)`: R240, R374. -/
def exec_DCT0_4_3 (s : Bool) (st : State) : Host.Outcome State Fault Refusal :=
  (coefCode 12 4 3 s st).finish

/-- `DCT0 (0,10)`: R240, R374. -/
def exec_DCT0_0_10 (s : Bool) (st : State) : Host.Outcome State Fault Refusal :=
  (coefCode 12 0 10 s st).finish

/-- `DCT0 (2,4)`: R240, R374. -/
def exec_DCT0_2_4 (s : Bool) (st : State) : Host.Outcome State Fault Refusal :=
  (coefCode 12 2 4 s st).finish

/-- `DCT0 (7,2)`: R240, R374. -/
def exec_DCT0_7_2 (s : Bool) (st : State) : Host.Outcome State Fault Refusal :=
  (coefCode 12 7 2 s st).finish

/-- `DCT0 (21,1)`: R240, R374. -/
def exec_DCT0_21_1 (s : Bool) (st : State) : Host.Outcome State Fault Refusal :=
  (coefCode 12 21 1 s st).finish

/-- `DCT0 (20,1)`: R240, R374. -/
def exec_DCT0_20_1 (s : Bool) (st : State) : Host.Outcome State Fault Refusal :=
  (coefCode 12 20 1 s st).finish

/-- `DCT0 (0,9)`: R240, R374. -/
def exec_DCT0_0_9 (s : Bool) (st : State) : Host.Outcome State Fault Refusal :=
  (coefCode 12 0 9 s st).finish

/-- `DCT0 (19,1)`: R240, R374. -/
def exec_DCT0_19_1 (s : Bool) (st : State) : Host.Outcome State Fault Refusal :=
  (coefCode 12 19 1 s st).finish

/-- `DCT0 (18,1)`: R240, R374. -/
def exec_DCT0_18_1 (s : Bool) (st : State) : Host.Outcome State Fault Refusal :=
  (coefCode 12 18 1 s st).finish

/-- `DCT0 (1,5)`: R240, R374. -/
def exec_DCT0_1_5 (s : Bool) (st : State) : Host.Outcome State Fault Refusal :=
  (coefCode 12 1 5 s st).finish

/-- `DCT0 (3,3)`: R240, R374. -/
def exec_DCT0_3_3 (s : Bool) (st : State) : Host.Outcome State Fault Refusal :=
  (coefCode 12 3 3 s st).finish

/-- `DCT0 (0,8)`: R240, R374. -/
def exec_DCT0_0_8 (s : Bool) (st : State) : Host.Outcome State Fault Refusal :=
  (coefCode 12 0 8 s st).finish

/-- `DCT0 (6,2)`: R240, R374. -/
def exec_DCT0_6_2 (s : Bool) (st : State) : Host.Outcome State Fault Refusal :=
  (coefCode 12 6 2 s st).finish

/-- `DCT0 (17,1)`: R240, R374. -/
def exec_DCT0_17_1 (s : Bool) (st : State) : Host.Outcome State Fault Refusal :=
  (coefCode 12 17 1 s st).finish

/-- `DCT0 (10,2)`: R240, R374. -/
def exec_DCT0_10_2 (s : Bool) (st : State) : Host.Outcome State Fault Refusal :=
  (coefCode 13 10 2 s st).finish

/-- `DCT0 (9,2)`: R240, R374. -/
def exec_DCT0_9_2 (s : Bool) (st : State) : Host.Outcome State Fault Refusal :=
  (coefCode 13 9 2 s st).finish

/-- `DCT0 (5,3)`: R240, R374. -/
def exec_DCT0_5_3 (s : Bool) (st : State) : Host.Outcome State Fault Refusal :=
  (coefCode 13 5 3 s st).finish

/-- `DCT0 (3,4)`: R240, R374. -/
def exec_DCT0_3_4 (s : Bool) (st : State) : Host.Outcome State Fault Refusal :=
  (coefCode 13 3 4 s st).finish

/-- `DCT0 (2,5)`: R240, R374. -/
def exec_DCT0_2_5 (s : Bool) (st : State) : Host.Outcome State Fault Refusal :=
  (coefCode 13 2 5 s st).finish

/-- `DCT0 (1,7)`: R240, R374. -/
def exec_DCT0_1_7 (s : Bool) (st : State) : Host.Outcome State Fault Refusal :=
  (coefCode 13 1 7 s st).finish

/-- `DCT0 (1,6)`: R240, R374. -/
def exec_DCT0_1_6 (s : Bool) (st : State) : Host.Outcome State Fault Refusal :=
  (coefCode 13 1 6 s st).finish

/-- `DCT0 (0,15)`: R240, R374. -/
def exec_DCT0_0_15 (s : Bool) (st : State) : Host.Outcome State Fault Refusal :=
  (coefCode 13 0 15 s st).finish

/-- `DCT0 (0,14)`: R240, R374. -/
def exec_DCT0_0_14 (s : Bool) (st : State) : Host.Outcome State Fault Refusal :=
  (coefCode 13 0 14 s st).finish

/-- `DCT0 (0,13)`: R240, R374. -/
def exec_DCT0_0_13 (s : Bool) (st : State) : Host.Outcome State Fault Refusal :=
  (coefCode 13 0 13 s st).finish

/-- `DCT0 (0,12)`: R240, R374. -/
def exec_DCT0_0_12 (s : Bool) (st : State) : Host.Outcome State Fault Refusal :=
  (coefCode 13 0 12 s st).finish

/-- `DCT0 (26,1)`: R240, R374. -/
def exec_DCT0_26_1 (s : Bool) (st : State) : Host.Outcome State Fault Refusal :=
  (coefCode 13 26 1 s st).finish

/-- `DCT0 (25,1)`: R240, R374. -/
def exec_DCT0_25_1 (s : Bool) (st : State) : Host.Outcome State Fault Refusal :=
  (coefCode 13 25 1 s st).finish

/-- `DCT0 (24,1)`: R240, R374. -/
def exec_DCT0_24_1 (s : Bool) (st : State) : Host.Outcome State Fault Refusal :=
  (coefCode 13 24 1 s st).finish

/-- `DCT0 (23,1)`: R240, R374. -/
def exec_DCT0_23_1 (s : Bool) (st : State) : Host.Outcome State Fault Refusal :=
  (coefCode 13 23 1 s st).finish

/-- `DCT0 (22,1)`: R240, R374. -/
def exec_DCT0_22_1 (s : Bool) (st : State) : Host.Outcome State Fault Refusal :=
  (coefCode 13 22 1 s st).finish

/-- `DCT0 (0,31)`: R240, R374. -/
def exec_DCT0_0_31 (s : Bool) (st : State) : Host.Outcome State Fault Refusal :=
  (coefCode 14 0 31 s st).finish

/-- `DCT0 (0,30)`: R240, R374. -/
def exec_DCT0_0_30 (s : Bool) (st : State) : Host.Outcome State Fault Refusal :=
  (coefCode 14 0 30 s st).finish

/-- `DCT0 (0,29)`: R240, R374. -/
def exec_DCT0_0_29 (s : Bool) (st : State) : Host.Outcome State Fault Refusal :=
  (coefCode 14 0 29 s st).finish

/-- `DCT0 (0,28)`: R240, R374. -/
def exec_DCT0_0_28 (s : Bool) (st : State) : Host.Outcome State Fault Refusal :=
  (coefCode 14 0 28 s st).finish

/-- `DCT0 (0,27)`: R240, R374. -/
def exec_DCT0_0_27 (s : Bool) (st : State) : Host.Outcome State Fault Refusal :=
  (coefCode 14 0 27 s st).finish

/-- `DCT0 (0,26)`: R240, R374. -/
def exec_DCT0_0_26 (s : Bool) (st : State) : Host.Outcome State Fault Refusal :=
  (coefCode 14 0 26 s st).finish

/-- `DCT0 (0,25)`: R240, R374. -/
def exec_DCT0_0_25 (s : Bool) (st : State) : Host.Outcome State Fault Refusal :=
  (coefCode 14 0 25 s st).finish

/-- `DCT0 (0,24)`: R240, R374. -/
def exec_DCT0_0_24 (s : Bool) (st : State) : Host.Outcome State Fault Refusal :=
  (coefCode 14 0 24 s st).finish

/-- `DCT0 (0,23)`: R240, R374. -/
def exec_DCT0_0_23 (s : Bool) (st : State) : Host.Outcome State Fault Refusal :=
  (coefCode 14 0 23 s st).finish

/-- `DCT0 (0,22)`: R240, R374. -/
def exec_DCT0_0_22 (s : Bool) (st : State) : Host.Outcome State Fault Refusal :=
  (coefCode 14 0 22 s st).finish

/-- `DCT0 (0,21)`: R240, R374. -/
def exec_DCT0_0_21 (s : Bool) (st : State) : Host.Outcome State Fault Refusal :=
  (coefCode 14 0 21 s st).finish

/-- `DCT0 (0,20)`: R240, R374. -/
def exec_DCT0_0_20 (s : Bool) (st : State) : Host.Outcome State Fault Refusal :=
  (coefCode 14 0 20 s st).finish

/-- `DCT0 (0,19)`: R240, R374. -/
def exec_DCT0_0_19 (s : Bool) (st : State) : Host.Outcome State Fault Refusal :=
  (coefCode 14 0 19 s st).finish

/-- `DCT0 (0,18)`: R240, R374. -/
def exec_DCT0_0_18 (s : Bool) (st : State) : Host.Outcome State Fault Refusal :=
  (coefCode 14 0 18 s st).finish

/-- `DCT0 (0,17)`: R240, R374. -/
def exec_DCT0_0_17 (s : Bool) (st : State) : Host.Outcome State Fault Refusal :=
  (coefCode 14 0 17 s st).finish

/-- `DCT0 (0,16)`: R240, R374. -/
def exec_DCT0_0_16 (s : Bool) (st : State) : Host.Outcome State Fault Refusal :=
  (coefCode 14 0 16 s st).finish

/-- `DCT0 (0,40)`: R240, R374. -/
def exec_DCT0_0_40 (s : Bool) (st : State) : Host.Outcome State Fault Refusal :=
  (coefCode 15 0 40 s st).finish

/-- `DCT0 (0,39)`: R240, R374. -/
def exec_DCT0_0_39 (s : Bool) (st : State) : Host.Outcome State Fault Refusal :=
  (coefCode 15 0 39 s st).finish

/-- `DCT0 (0,38)`: R240, R374. -/
def exec_DCT0_0_38 (s : Bool) (st : State) : Host.Outcome State Fault Refusal :=
  (coefCode 15 0 38 s st).finish

/-- `DCT0 (0,37)`: R240, R374. -/
def exec_DCT0_0_37 (s : Bool) (st : State) : Host.Outcome State Fault Refusal :=
  (coefCode 15 0 37 s st).finish

/-- `DCT0 (0,36)`: R240, R374. -/
def exec_DCT0_0_36 (s : Bool) (st : State) : Host.Outcome State Fault Refusal :=
  (coefCode 15 0 36 s st).finish

/-- `DCT0 (0,35)`: R240, R374. -/
def exec_DCT0_0_35 (s : Bool) (st : State) : Host.Outcome State Fault Refusal :=
  (coefCode 15 0 35 s st).finish

/-- `DCT0 (0,34)`: R240, R374. -/
def exec_DCT0_0_34 (s : Bool) (st : State) : Host.Outcome State Fault Refusal :=
  (coefCode 15 0 34 s st).finish

/-- `DCT0 (0,33)`: R240, R374. -/
def exec_DCT0_0_33 (s : Bool) (st : State) : Host.Outcome State Fault Refusal :=
  (coefCode 15 0 33 s st).finish

/-- `DCT0 (0,32)`: R240, R374. -/
def exec_DCT0_0_32 (s : Bool) (st : State) : Host.Outcome State Fault Refusal :=
  (coefCode 15 0 32 s st).finish

/-- `DCT0 (1,14)`: R240, R374. -/
def exec_DCT0_1_14 (s : Bool) (st : State) : Host.Outcome State Fault Refusal :=
  (coefCode 15 1 14 s st).finish

/-- `DCT0 (1,13)`: R240, R374. -/
def exec_DCT0_1_13 (s : Bool) (st : State) : Host.Outcome State Fault Refusal :=
  (coefCode 15 1 13 s st).finish

/-- `DCT0 (1,12)`: R240, R374. -/
def exec_DCT0_1_12 (s : Bool) (st : State) : Host.Outcome State Fault Refusal :=
  (coefCode 15 1 12 s st).finish

/-- `DCT0 (1,11)`: R240, R374. -/
def exec_DCT0_1_11 (s : Bool) (st : State) : Host.Outcome State Fault Refusal :=
  (coefCode 15 1 11 s st).finish

/-- `DCT0 (1,10)`: R240, R374. -/
def exec_DCT0_1_10 (s : Bool) (st : State) : Host.Outcome State Fault Refusal :=
  (coefCode 15 1 10 s st).finish

/-- `DCT0 (1,9)`: R240, R374. -/
def exec_DCT0_1_9 (s : Bool) (st : State) : Host.Outcome State Fault Refusal :=
  (coefCode 15 1 9 s st).finish

/-- `DCT0 (1,8)`: R240, R374. -/
def exec_DCT0_1_8 (s : Bool) (st : State) : Host.Outcome State Fault Refusal :=
  (coefCode 15 1 8 s st).finish

/-- `DCT0 (1,18)`: R240, R374. -/
def exec_DCT0_1_18 (s : Bool) (st : State) : Host.Outcome State Fault Refusal :=
  (coefCode 16 1 18 s st).finish

/-- `DCT0 (1,17)`: R240, R374. -/
def exec_DCT0_1_17 (s : Bool) (st : State) : Host.Outcome State Fault Refusal :=
  (coefCode 16 1 17 s st).finish

/-- `DCT0 (1,16)`: R240, R374. -/
def exec_DCT0_1_16 (s : Bool) (st : State) : Host.Outcome State Fault Refusal :=
  (coefCode 16 1 16 s st).finish

/-- `DCT0 (1,15)`: R240, R374. -/
def exec_DCT0_1_15 (s : Bool) (st : State) : Host.Outcome State Fault Refusal :=
  (coefCode 16 1 15 s st).finish

/-- `DCT0 (6,3)`: R240, R374. -/
def exec_DCT0_6_3 (s : Bool) (st : State) : Host.Outcome State Fault Refusal :=
  (coefCode 16 6 3 s st).finish

/-- `DCT0 (16,2)`: R240, R374. -/
def exec_DCT0_16_2 (s : Bool) (st : State) : Host.Outcome State Fault Refusal :=
  (coefCode 16 16 2 s st).finish

/-- `DCT0 (15,2)`: R240, R374. -/
def exec_DCT0_15_2 (s : Bool) (st : State) : Host.Outcome State Fault Refusal :=
  (coefCode 16 15 2 s st).finish

/-- `DCT0 (14,2)`: R240, R374. -/
def exec_DCT0_14_2 (s : Bool) (st : State) : Host.Outcome State Fault Refusal :=
  (coefCode 16 14 2 s st).finish

/-- `DCT0 (13,2)`: R240, R374. -/
def exec_DCT0_13_2 (s : Bool) (st : State) : Host.Outcome State Fault Refusal :=
  (coefCode 16 13 2 s st).finish

/-- `DCT0 (12,2)`: R240, R374. -/
def exec_DCT0_12_2 (s : Bool) (st : State) : Host.Outcome State Fault Refusal :=
  (coefCode 16 12 2 s st).finish

/-- `DCT0 (11,2)`: R240, R374. -/
def exec_DCT0_11_2 (s : Bool) (st : State) : Host.Outcome State Fault Refusal :=
  (coefCode 16 11 2 s st).finish

/-- `DCT0 (31,1)`: R240, R374. -/
def exec_DCT0_31_1 (s : Bool) (st : State) : Host.Outcome State Fault Refusal :=
  (coefCode 16 31 1 s st).finish

/-- `DCT0 (30,1)`: R240, R374. -/
def exec_DCT0_30_1 (s : Bool) (st : State) : Host.Outcome State Fault Refusal :=
  (coefCode 16 30 1 s st).finish

/-- `DCT0 (29,1)`: R240, R374. -/
def exec_DCT0_29_1 (s : Bool) (st : State) : Host.Outcome State Fault Refusal :=
  (coefCode 16 29 1 s st).finish

/-- `DCT0 (28,1)`: R240, R374. -/
def exec_DCT0_28_1 (s : Bool) (st : State) : Host.Outcome State Fault Refusal :=
  (coefCode 16 28 1 s st).finish

/-- `DCT0 (27,1)`: R240, R374. -/
def exec_DCT0_27_1 (s : Bool) (st : State) : Host.Outcome State Fault Refusal :=
  (coefCode 16 27 1 s st).finish

/-- `DCT0_FIRST (0,1)`: R241, R374. -/
def exec_DCT0_FIRST_0_1 (s : Bool) (st : State) : Host.Outcome State Fault Refusal :=
  (coefCode 1 0 1 s st).finish

end Sys2Proof.Machine
end

