-- ==== Sys2Proof/Machine/Dct1Codes.lean ====
section
/-! DEFINITION. The meanings of the DCT coefficients table one (B-15, R242): one definition for each
row of the opcode table. -/

namespace Sys2Proof.Machine

/-- `DCT1 (0,1)`: R242, R374. -/
def exec_DCT1_0_1 (s : Bool) (st : State) : Host.Outcome State Fault Refusal :=
  (coefCode 2 0 1 s st).finish

/-- `DCT1 (1,1)`: R242, R374. -/
def exec_DCT1_1_1 (s : Bool) (st : State) : Host.Outcome State Fault Refusal :=
  (coefCode 3 1 1 s st).finish

/-- `DCT1 (0,2)`: R242, R374. -/
def exec_DCT1_0_2 (s : Bool) (st : State) : Host.Outcome State Fault Refusal :=
  (coefCode 3 0 2 s st).finish

/-- `DCT1 EOB`: R244. -/
def exec_DCT1_EOB (st : State) : Host.Outcome State Fault Refusal :=
  (endOfBlock 4 st).finish

/-- `DCT1 (0,3)`: R242, R374. -/
def exec_DCT1_0_3 (s : Bool) (st : State) : Host.Outcome State Fault Refusal :=
  (coefCode 4 0 3 s st).finish

/-- `DCT1 (2,1)`: R242, R374. -/
def exec_DCT1_2_1 (s : Bool) (st : State) : Host.Outcome State Fault Refusal :=
  (coefCode 5 2 1 s st).finish

/-- `DCT1 (1,2)`: R242, R374. -/
def exec_DCT1_1_2 (s : Bool) (st : State) : Host.Outcome State Fault Refusal :=
  (coefCode 5 1 2 s st).finish

/-- `DCT1 (3,1)`: R242, R374. -/
def exec_DCT1_3_1 (s : Bool) (st : State) : Host.Outcome State Fault Refusal :=
  (coefCode 5 3 1 s st).finish

/-- `DCT1 (0,4)`: R242, R374. -/
def exec_DCT1_0_4 (s : Bool) (st : State) : Host.Outcome State Fault Refusal :=
  (coefCode 5 0 4 s st).finish

/-- `DCT1 (0,5)`: R242, R374. -/
def exec_DCT1_0_5 (s : Bool) (st : State) : Host.Outcome State Fault Refusal :=
  (coefCode 5 0 5 s st).finish

/-- `DCT1 ESC`: R243, R378. -/
def exec_DCT1_ESC (run : BitVec 6) (level : BitVec 12) (st : State) : Host.Outcome State Fault Refusal :=
  (escapeCode 6 run level st).finish

/-- `DCT1 (0,7)`: R242, R374. -/
def exec_DCT1_0_7 (s : Bool) (st : State) : Host.Outcome State Fault Refusal :=
  (coefCode 6 0 7 s st).finish

/-- `DCT1 (0,6)`: R242, R374. -/
def exec_DCT1_0_6 (s : Bool) (st : State) : Host.Outcome State Fault Refusal :=
  (coefCode 6 0 6 s st).finish

/-- `DCT1 (4,1)`: R242, R374. -/
def exec_DCT1_4_1 (s : Bool) (st : State) : Host.Outcome State Fault Refusal :=
  (coefCode 6 4 1 s st).finish

/-- `DCT1 (5,1)`: R242, R374. -/
def exec_DCT1_5_1 (s : Bool) (st : State) : Host.Outcome State Fault Refusal :=
  (coefCode 6 5 1 s st).finish

/-- `DCT1 (7,1)`: R242, R374. -/
def exec_DCT1_7_1 (s : Bool) (st : State) : Host.Outcome State Fault Refusal :=
  (coefCode 7 7 1 s st).finish

/-- `DCT1 (8,1)`: R242, R374. -/
def exec_DCT1_8_1 (s : Bool) (st : State) : Host.Outcome State Fault Refusal :=
  (coefCode 7 8 1 s st).finish

/-- `DCT1 (6,1)`: R242, R374. -/
def exec_DCT1_6_1 (s : Bool) (st : State) : Host.Outcome State Fault Refusal :=
  (coefCode 7 6 1 s st).finish

/-- `DCT1 (2,2)`: R242, R374. -/
def exec_DCT1_2_2 (s : Bool) (st : State) : Host.Outcome State Fault Refusal :=
  (coefCode 7 2 2 s st).finish

/-- `DCT1 (9,1)`: R242, R374. -/
def exec_DCT1_9_1 (s : Bool) (st : State) : Host.Outcome State Fault Refusal :=
  (coefCode 7 9 1 s st).finish

/-- `DCT1 (1,3)`: R242, R374. -/
def exec_DCT1_1_3 (s : Bool) (st : State) : Host.Outcome State Fault Refusal :=
  (coefCode 7 1 3 s st).finish

/-- `DCT1 (10,1)`: R242, R374. -/
def exec_DCT1_10_1 (s : Bool) (st : State) : Host.Outcome State Fault Refusal :=
  (coefCode 7 10 1 s st).finish

/-- `DCT1 (0,8)`: R242, R374. -/
def exec_DCT1_0_8 (s : Bool) (st : State) : Host.Outcome State Fault Refusal :=
  (coefCode 7 0 8 s st).finish

/-- `DCT1 (0,9)`: R242, R374. -/
def exec_DCT1_0_9 (s : Bool) (st : State) : Host.Outcome State Fault Refusal :=
  (coefCode 7 0 9 s st).finish

/-- `DCT1 (1,5)`: R242, R374. -/
def exec_DCT1_1_5 (s : Bool) (st : State) : Host.Outcome State Fault Refusal :=
  (coefCode 8 1 5 s st).finish

/-- `DCT1 (11,1)`: R242, R374. -/
def exec_DCT1_11_1 (s : Bool) (st : State) : Host.Outcome State Fault Refusal :=
  (coefCode 8 11 1 s st).finish

/-- `DCT1 (0,11)`: R242, R374. -/
def exec_DCT1_0_11 (s : Bool) (st : State) : Host.Outcome State Fault Refusal :=
  (coefCode 8 0 11 s st).finish

/-- `DCT1 (0,10)`: R242, R374. -/
def exec_DCT1_0_10 (s : Bool) (st : State) : Host.Outcome State Fault Refusal :=
  (coefCode 8 0 10 s st).finish

/-- `DCT1 (13,1)`: R242, R374. -/
def exec_DCT1_13_1 (s : Bool) (st : State) : Host.Outcome State Fault Refusal :=
  (coefCode 8 13 1 s st).finish

/-- `DCT1 (12,1)`: R242, R374. -/
def exec_DCT1_12_1 (s : Bool) (st : State) : Host.Outcome State Fault Refusal :=
  (coefCode 8 12 1 s st).finish

/-- `DCT1 (3,2)`: R242, R374. -/
def exec_DCT1_3_2 (s : Bool) (st : State) : Host.Outcome State Fault Refusal :=
  (coefCode 8 3 2 s st).finish

/-- `DCT1 (1,4)`: R242, R374. -/
def exec_DCT1_1_4 (s : Bool) (st : State) : Host.Outcome State Fault Refusal :=
  (coefCode 8 1 4 s st).finish

/-- `DCT1 (0,12)`: R242, R374. -/
def exec_DCT1_0_12 (s : Bool) (st : State) : Host.Outcome State Fault Refusal :=
  (coefCode 8 0 12 s st).finish

/-- `DCT1 (0,13)`: R242, R374. -/
def exec_DCT1_0_13 (s : Bool) (st : State) : Host.Outcome State Fault Refusal :=
  (coefCode 8 0 13 s st).finish

/-- `DCT1 (2,3)`: R242, R374. -/
def exec_DCT1_2_3 (s : Bool) (st : State) : Host.Outcome State Fault Refusal :=
  (coefCode 8 2 3 s st).finish

/-- `DCT1 (4,2)`: R242, R374. -/
def exec_DCT1_4_2 (s : Bool) (st : State) : Host.Outcome State Fault Refusal :=
  (coefCode 8 4 2 s st).finish

/-- `DCT1 (0,14)`: R242, R374. -/
def exec_DCT1_0_14 (s : Bool) (st : State) : Host.Outcome State Fault Refusal :=
  (coefCode 8 0 14 s st).finish

/-- `DCT1 (0,15)`: R242, R374. -/
def exec_DCT1_0_15 (s : Bool) (st : State) : Host.Outcome State Fault Refusal :=
  (coefCode 8 0 15 s st).finish

/-- `DCT1 (5,2)`: R242, R374. -/
def exec_DCT1_5_2 (s : Bool) (st : State) : Host.Outcome State Fault Refusal :=
  (coefCode 9 5 2 s st).finish

/-- `DCT1 (14,1)`: R242, R374. -/
def exec_DCT1_14_1 (s : Bool) (st : State) : Host.Outcome State Fault Refusal :=
  (coefCode 9 14 1 s st).finish

/-- `DCT1 (15,1)`: R242, R374. -/
def exec_DCT1_15_1 (s : Bool) (st : State) : Host.Outcome State Fault Refusal :=
  (coefCode 9 15 1 s st).finish

/-- `DCT1 (2,4)`: R242, R374. -/
def exec_DCT1_2_4 (s : Bool) (st : State) : Host.Outcome State Fault Refusal :=
  (coefCode 10 2 4 s st).finish

/-- `DCT1 (16,1)`: R242, R374. -/
def exec_DCT1_16_1 (s : Bool) (st : State) : Host.Outcome State Fault Refusal :=
  (coefCode 10 16 1 s st).finish

/-- `DCT1 (8,2)`: R242, R374. -/
def exec_DCT1_8_2 (s : Bool) (st : State) : Host.Outcome State Fault Refusal :=
  (coefCode 12 8 2 s st).finish

/-- `DCT1 (4,3)`: R242, R374. -/
def exec_DCT1_4_3 (s : Bool) (st : State) : Host.Outcome State Fault Refusal :=
  (coefCode 12 4 3 s st).finish

/-- `DCT1 (7,2)`: R242, R374. -/
def exec_DCT1_7_2 (s : Bool) (st : State) : Host.Outcome State Fault Refusal :=
  (coefCode 12 7 2 s st).finish

/-- `DCT1 (21,1)`: R242, R374. -/
def exec_DCT1_21_1 (s : Bool) (st : State) : Host.Outcome State Fault Refusal :=
  (coefCode 12 21 1 s st).finish

/-- `DCT1 (20,1)`: R242, R374. -/
def exec_DCT1_20_1 (s : Bool) (st : State) : Host.Outcome State Fault Refusal :=
  (coefCode 12 20 1 s st).finish

/-- `DCT1 (19,1)`: R242, R374. -/
def exec_DCT1_19_1 (s : Bool) (st : State) : Host.Outcome State Fault Refusal :=
  (coefCode 12 19 1 s st).finish

/-- `DCT1 (18,1)`: R242, R374. -/
def exec_DCT1_18_1 (s : Bool) (st : State) : Host.Outcome State Fault Refusal :=
  (coefCode 12 18 1 s st).finish

/-- `DCT1 (3,3)`: R242, R374. -/
def exec_DCT1_3_3 (s : Bool) (st : State) : Host.Outcome State Fault Refusal :=
  (coefCode 12 3 3 s st).finish

/-- `DCT1 (6,2)`: R242, R374. -/
def exec_DCT1_6_2 (s : Bool) (st : State) : Host.Outcome State Fault Refusal :=
  (coefCode 12 6 2 s st).finish

/-- `DCT1 (17,1)`: R242, R374. -/
def exec_DCT1_17_1 (s : Bool) (st : State) : Host.Outcome State Fault Refusal :=
  (coefCode 12 17 1 s st).finish

/-- `DCT1 (10,2)`: R242, R374. -/
def exec_DCT1_10_2 (s : Bool) (st : State) : Host.Outcome State Fault Refusal :=
  (coefCode 13 10 2 s st).finish

/-- `DCT1 (9,2)`: R242, R374. -/
def exec_DCT1_9_2 (s : Bool) (st : State) : Host.Outcome State Fault Refusal :=
  (coefCode 13 9 2 s st).finish

/-- `DCT1 (5,3)`: R242, R374. -/
def exec_DCT1_5_3 (s : Bool) (st : State) : Host.Outcome State Fault Refusal :=
  (coefCode 13 5 3 s st).finish

/-- `DCT1 (3,4)`: R242, R374. -/
def exec_DCT1_3_4 (s : Bool) (st : State) : Host.Outcome State Fault Refusal :=
  (coefCode 13 3 4 s st).finish

/-- `DCT1 (2,5)`: R242, R374. -/
def exec_DCT1_2_5 (s : Bool) (st : State) : Host.Outcome State Fault Refusal :=
  (coefCode 13 2 5 s st).finish

/-- `DCT1 (1,7)`: R242, R374. -/
def exec_DCT1_1_7 (s : Bool) (st : State) : Host.Outcome State Fault Refusal :=
  (coefCode 13 1 7 s st).finish

/-- `DCT1 (1,6)`: R242, R374. -/
def exec_DCT1_1_6 (s : Bool) (st : State) : Host.Outcome State Fault Refusal :=
  (coefCode 13 1 6 s st).finish

/-- `DCT1 (26,1)`: R242, R374. -/
def exec_DCT1_26_1 (s : Bool) (st : State) : Host.Outcome State Fault Refusal :=
  (coefCode 13 26 1 s st).finish

/-- `DCT1 (25,1)`: R242, R374. -/
def exec_DCT1_25_1 (s : Bool) (st : State) : Host.Outcome State Fault Refusal :=
  (coefCode 13 25 1 s st).finish

/-- `DCT1 (24,1)`: R242, R374. -/
def exec_DCT1_24_1 (s : Bool) (st : State) : Host.Outcome State Fault Refusal :=
  (coefCode 13 24 1 s st).finish

/-- `DCT1 (23,1)`: R242, R374. -/
def exec_DCT1_23_1 (s : Bool) (st : State) : Host.Outcome State Fault Refusal :=
  (coefCode 13 23 1 s st).finish

/-- `DCT1 (22,1)`: R242, R374. -/
def exec_DCT1_22_1 (s : Bool) (st : State) : Host.Outcome State Fault Refusal :=
  (coefCode 13 22 1 s st).finish

/-- `DCT1 (0,31)`: R242, R374. -/
def exec_DCT1_0_31 (s : Bool) (st : State) : Host.Outcome State Fault Refusal :=
  (coefCode 14 0 31 s st).finish

/-- `DCT1 (0,30)`: R242, R374. -/
def exec_DCT1_0_30 (s : Bool) (st : State) : Host.Outcome State Fault Refusal :=
  (coefCode 14 0 30 s st).finish

/-- `DCT1 (0,29)`: R242, R374. -/
def exec_DCT1_0_29 (s : Bool) (st : State) : Host.Outcome State Fault Refusal :=
  (coefCode 14 0 29 s st).finish

/-- `DCT1 (0,28)`: R242, R374. -/
def exec_DCT1_0_28 (s : Bool) (st : State) : Host.Outcome State Fault Refusal :=
  (coefCode 14 0 28 s st).finish

/-- `DCT1 (0,27)`: R242, R374. -/
def exec_DCT1_0_27 (s : Bool) (st : State) : Host.Outcome State Fault Refusal :=
  (coefCode 14 0 27 s st).finish

/-- `DCT1 (0,26)`: R242, R374. -/
def exec_DCT1_0_26 (s : Bool) (st : State) : Host.Outcome State Fault Refusal :=
  (coefCode 14 0 26 s st).finish

/-- `DCT1 (0,25)`: R242, R374. -/
def exec_DCT1_0_25 (s : Bool) (st : State) : Host.Outcome State Fault Refusal :=
  (coefCode 14 0 25 s st).finish

/-- `DCT1 (0,24)`: R242, R374. -/
def exec_DCT1_0_24 (s : Bool) (st : State) : Host.Outcome State Fault Refusal :=
  (coefCode 14 0 24 s st).finish

/-- `DCT1 (0,23)`: R242, R374. -/
def exec_DCT1_0_23 (s : Bool) (st : State) : Host.Outcome State Fault Refusal :=
  (coefCode 14 0 23 s st).finish

/-- `DCT1 (0,22)`: R242, R374. -/
def exec_DCT1_0_22 (s : Bool) (st : State) : Host.Outcome State Fault Refusal :=
  (coefCode 14 0 22 s st).finish

/-- `DCT1 (0,21)`: R242, R374. -/
def exec_DCT1_0_21 (s : Bool) (st : State) : Host.Outcome State Fault Refusal :=
  (coefCode 14 0 21 s st).finish

/-- `DCT1 (0,20)`: R242, R374. -/
def exec_DCT1_0_20 (s : Bool) (st : State) : Host.Outcome State Fault Refusal :=
  (coefCode 14 0 20 s st).finish

/-- `DCT1 (0,19)`: R242, R374. -/
def exec_DCT1_0_19 (s : Bool) (st : State) : Host.Outcome State Fault Refusal :=
  (coefCode 14 0 19 s st).finish

/-- `DCT1 (0,18)`: R242, R374. -/
def exec_DCT1_0_18 (s : Bool) (st : State) : Host.Outcome State Fault Refusal :=
  (coefCode 14 0 18 s st).finish

/-- `DCT1 (0,17)`: R242, R374. -/
def exec_DCT1_0_17 (s : Bool) (st : State) : Host.Outcome State Fault Refusal :=
  (coefCode 14 0 17 s st).finish

/-- `DCT1 (0,16)`: R242, R374. -/
def exec_DCT1_0_16 (s : Bool) (st : State) : Host.Outcome State Fault Refusal :=
  (coefCode 14 0 16 s st).finish

/-- `DCT1 (0,40)`: R242, R374. -/
def exec_DCT1_0_40 (s : Bool) (st : State) : Host.Outcome State Fault Refusal :=
  (coefCode 15 0 40 s st).finish

/-- `DCT1 (0,39)`: R242, R374. -/
def exec_DCT1_0_39 (s : Bool) (st : State) : Host.Outcome State Fault Refusal :=
  (coefCode 15 0 39 s st).finish

/-- `DCT1 (0,38)`: R242, R374. -/
def exec_DCT1_0_38 (s : Bool) (st : State) : Host.Outcome State Fault Refusal :=
  (coefCode 15 0 38 s st).finish

/-- `DCT1 (0,37)`: R242, R374. -/
def exec_DCT1_0_37 (s : Bool) (st : State) : Host.Outcome State Fault Refusal :=
  (coefCode 15 0 37 s st).finish

/-- `DCT1 (0,36)`: R242, R374. -/
def exec_DCT1_0_36 (s : Bool) (st : State) : Host.Outcome State Fault Refusal :=
  (coefCode 15 0 36 s st).finish

/-- `DCT1 (0,35)`: R242, R374. -/
def exec_DCT1_0_35 (s : Bool) (st : State) : Host.Outcome State Fault Refusal :=
  (coefCode 15 0 35 s st).finish

/-- `DCT1 (0,34)`: R242, R374. -/
def exec_DCT1_0_34 (s : Bool) (st : State) : Host.Outcome State Fault Refusal :=
  (coefCode 15 0 34 s st).finish

/-- `DCT1 (0,33)`: R242, R374. -/
def exec_DCT1_0_33 (s : Bool) (st : State) : Host.Outcome State Fault Refusal :=
  (coefCode 15 0 33 s st).finish

/-- `DCT1 (0,32)`: R242, R374. -/
def exec_DCT1_0_32 (s : Bool) (st : State) : Host.Outcome State Fault Refusal :=
  (coefCode 15 0 32 s st).finish

/-- `DCT1 (1,14)`: R242, R374. -/
def exec_DCT1_1_14 (s : Bool) (st : State) : Host.Outcome State Fault Refusal :=
  (coefCode 15 1 14 s st).finish

/-- `DCT1 (1,13)`: R242, R374. -/
def exec_DCT1_1_13 (s : Bool) (st : State) : Host.Outcome State Fault Refusal :=
  (coefCode 15 1 13 s st).finish

/-- `DCT1 (1,12)`: R242, R374. -/
def exec_DCT1_1_12 (s : Bool) (st : State) : Host.Outcome State Fault Refusal :=
  (coefCode 15 1 12 s st).finish

/-- `DCT1 (1,11)`: R242, R374. -/
def exec_DCT1_1_11 (s : Bool) (st : State) : Host.Outcome State Fault Refusal :=
  (coefCode 15 1 11 s st).finish

/-- `DCT1 (1,10)`: R242, R374. -/
def exec_DCT1_1_10 (s : Bool) (st : State) : Host.Outcome State Fault Refusal :=
  (coefCode 15 1 10 s st).finish

/-- `DCT1 (1,9)`: R242, R374. -/
def exec_DCT1_1_9 (s : Bool) (st : State) : Host.Outcome State Fault Refusal :=
  (coefCode 15 1 9 s st).finish

/-- `DCT1 (1,8)`: R242, R374. -/
def exec_DCT1_1_8 (s : Bool) (st : State) : Host.Outcome State Fault Refusal :=
  (coefCode 15 1 8 s st).finish

/-- `DCT1 (1,18)`: R242, R374. -/
def exec_DCT1_1_18 (s : Bool) (st : State) : Host.Outcome State Fault Refusal :=
  (coefCode 16 1 18 s st).finish

/-- `DCT1 (1,17)`: R242, R374. -/
def exec_DCT1_1_17 (s : Bool) (st : State) : Host.Outcome State Fault Refusal :=
  (coefCode 16 1 17 s st).finish

/-- `DCT1 (1,16)`: R242, R374. -/
def exec_DCT1_1_16 (s : Bool) (st : State) : Host.Outcome State Fault Refusal :=
  (coefCode 16 1 16 s st).finish

/-- `DCT1 (1,15)`: R242, R374. -/
def exec_DCT1_1_15 (s : Bool) (st : State) : Host.Outcome State Fault Refusal :=
  (coefCode 16 1 15 s st).finish

/-- `DCT1 (6,3)`: R242, R374. -/
def exec_DCT1_6_3 (s : Bool) (st : State) : Host.Outcome State Fault Refusal :=
  (coefCode 16 6 3 s st).finish

/-- `DCT1 (16,2)`: R242, R374. -/
def exec_DCT1_16_2 (s : Bool) (st : State) : Host.Outcome State Fault Refusal :=
  (coefCode 16 16 2 s st).finish

/-- `DCT1 (15,2)`: R242, R374. -/
def exec_DCT1_15_2 (s : Bool) (st : State) : Host.Outcome State Fault Refusal :=
  (coefCode 16 15 2 s st).finish

/-- `DCT1 (14,2)`: R242, R374. -/
def exec_DCT1_14_2 (s : Bool) (st : State) : Host.Outcome State Fault Refusal :=
  (coefCode 16 14 2 s st).finish

/-- `DCT1 (13,2)`: R242, R374. -/
def exec_DCT1_13_2 (s : Bool) (st : State) : Host.Outcome State Fault Refusal :=
  (coefCode 16 13 2 s st).finish

/-- `DCT1 (12,2)`: R242, R374. -/
def exec_DCT1_12_2 (s : Bool) (st : State) : Host.Outcome State Fault Refusal :=
  (coefCode 16 12 2 s st).finish

/-- `DCT1 (11,2)`: R242, R374. -/
def exec_DCT1_11_2 (s : Bool) (st : State) : Host.Outcome State Fault Refusal :=
  (coefCode 16 11 2 s st).finish

/-- `DCT1 (31,1)`: R242, R374. -/
def exec_DCT1_31_1 (s : Bool) (st : State) : Host.Outcome State Fault Refusal :=
  (coefCode 16 31 1 s st).finish

/-- `DCT1 (30,1)`: R242, R374. -/
def exec_DCT1_30_1 (s : Bool) (st : State) : Host.Outcome State Fault Refusal :=
  (coefCode 16 30 1 s st).finish

/-- `DCT1 (29,1)`: R242, R374. -/
def exec_DCT1_29_1 (s : Bool) (st : State) : Host.Outcome State Fault Refusal :=
  (coefCode 16 29 1 s st).finish

/-- `DCT1 (28,1)`: R242, R374. -/
def exec_DCT1_28_1 (s : Bool) (st : State) : Host.Outcome State Fault Refusal :=
  (coefCode 16 28 1 s st).finish

/-- `DCT1 (27,1)`: R242, R374. -/
def exec_DCT1_27_1 (s : Bool) (st : State) : Host.Outcome State Fault Refusal :=
  (coefCode 16 27 1 s st).finish

end Sys2Proof.Machine
end

