-- ==== Sys2Proof/Machine/Sequence.lean ====
section
/-! DEFINITION. The headers (42_headers.md) and the orchestrator (47_orchestrator.md): start codes, extensions, allocation,
picture start and end, publishing, slice start. -/

namespace Sys2Proof.Machine

-- ---------------------------------------------------------------- allocation and rotation

/-- `allocCheck()` (R599) with the outcome `ok` of the allocation; `true` beside the state when buffers exist after it. No
picture has started in the new buffers, so `curIdx` is unwritten again (R53, R602; log entry 3). -/
def State.allocWith (s : State) (ok : Bool) : Bool × State :=
  if s.inst.allocated = some (s.width, s.height) then (true, s)
  else if ok then
    (true, s.onInst fun r =>
      { r with allocated := some (s.width, s.height), fb := [], fwdIdx := 0, bwdIdx := 1, auxIdx := 2,
               curIdx := unwrittenCurIdx, ring := r.ring.map fun k => { k with pts := 0 } })
  else (false, (s.setPhase .failed).log .allocFailed)

/-- `startPicture()` (R601): an anchor picture swaps the roles and is written to the new backward buffer, a B picture
to the auxiliary one. -/
def State.startPicture (s : State) : State :=
  s.onInst fun r =>
    if s.pic.picture_coding_type = 1 ∨ s.pic.picture_coding_type = 2 then
      { r with fwdIdx := r.bwdIdx, bwdIdx := r.fwdIdx, curIdx := r.fwdIdx }
    else { r with curIdx := r.auxIdx }

-- ---------------------------------------------------------------- the end of a picture

/-- The slot `publish` writes (R605, D35). -/
def State.publishedSlot (s : State) : Slot :=
  { pts := s.cmd.pts, bufIdx := s.inst.curIdx, yStride := s.width, cStride := s.chromaWidth, w := s.width, h := s.height,
    srcSize := s.bufLen, codingType := s.pic.picture_coding_type }

/-- `publish(pts)` (R605). -/
def State.publish (s : State) : State :=
  s.onInst fun r => { r with ring := r.ring.set r.wr s.publishedSlot, wr := (r.wr + 1) % s.cfg.ringN }

/-- The end of `picture(pts)` (R597, R606): `atCode` when a start code ended it, which begins at `bp - 32`. -/
def State.finishPicture (s : State) (atCode : Bool) : State :=
  (s.setPhase .pictureComplete).publish.finishDecode true (if atCode then (s.cmd.bp - 32) / 8 else s.bufLen)

-- ---------------------------------------------------------------- start codes

/-- The next start code is searched for by `m`. -/
def State.scan (s : State) (m : ScanMode) : State := s.setCtx (.startCode m)

/-- The top loop of `decode` at start code `c`, `bp` just past it (R592, R300). -/
def State.topCode (s : State) (c : Byte) : State :=
  if s.inst.phase = .awaitSequenceHeader ∧ c ≠ 0xB3 then s.scan .top
  else if c = 0xB3 then s.setCtx .seqHeader
  else if c = 0x00 then s.setCtx .picHeader
  else if c = 0xB5 then s.setCtx (.extId .top)
  else if c = 0xB2 then s.scan .top
  else if c = 0xB8 then s.setCtx .gop
  else if c = 0xB7 then ((s.log (.sequenceEnd (s.cmd.bp - 32))).setPhase .awaitSequenceHeader).scan .top
  else if isSliceCode c then (s.log (.skippedSlice (s.cmd.bp - 32))).scan .top
  else (s.log (.skippedCode c s.cmd.bp)).scan .top

/-- The start of `slice(code)` (R610, R340): its row, and its header is due. -/
def State.startSlice (s : State) (c : Byte) : State :=
  (s.onSlc fun r => { r with sliceRow := c.toNat - 1 }).setCtx .sliceHeader

/-- The slice loop of `picture(pts)` at start code `c` (R597). -/
def State.sliceLoop (s : State) (c : Byte) : State :=
  if isSliceCode c then s.startSlice c else s.finishPicture true

/-- The f_codes of a picture with no picture coding extension (R336, D19). -/
def State.noPceDefaults (s : State) : State :=
  s.onPic fun r =>
    { r with f_code := ⟨Pair.const (r.forward_f_code.setWidth 4), Pair.const (r.backward_f_code.setWidth 4)⟩ }

/-- The loop that skips an unsupported picture's slices, at start code `c` (R597). -/
def State.skipLoop (s : State) (c : Byte) : State :=
  if isSliceCode c then s.scan .skipSlices else (s.setPhase .awaitPictureStart).topCode c

/-- `picture(pts)` after its extensions (R597): `c` is the start code that ended them, `none` at the end of the buffer. -/
def State.afterExtensions (s : State) (c : Option Byte) : Flow :=
  let s1 := if s.pic.pceSeen then s else s.noPceDefaults
  let t := s1.pic.picture_coding_type
  if t = 1 ∨ t = 2 ∨ t = 3 then
    if s1.pic.picture_structure ≠ 3 then .refuse (.fieldPicture s1)
    else
      let s2 := s1.startPicture.setPhase .decodingSlices
      match c with
      | some c => .go (s2.sliceLoop c)
      | none => .go (s2.finishPicture false)
  else
    let s2 := s1.log (.skippedPicture t s1.cmd.bp)
    match c with
    | some c => .go (s2.skipLoop c)
    | none => .go ((s2.setPhase .awaitPictureStart).finishDecode false s2.bufLen)

/-- A start code of code byte `c`: `nextStartCode()` has found it and reads its 32 bits (R207); where it leads depends on who
asked (R592, R301, R597). -/
def startCodeElem (c : Byte) (s : State) : Flow :=
  match s.ctx with
  | .startCode m =>
    let s1 := s.consume 32
    match m with
    | .top => .go (s1.topCode c)
    | .picExt =>
      if c = 0xB5 then .go (s1.setCtx (.extId .picExt))
      else if c = 0xB2 then .go s1
      else s1.afterExtensions (some c)
    | .slices => .go (s1.sliceLoop c)
    | .skipSlices => .go (s1.skipLoop c)
  | _ => .fault .outOfContext

/-- No further start code: `bp` is at the end of the buffer (R592, R597, R676). -/
def State.endOfBuffer (s : State) (m : ScanMode) : Flow :=
  match m with
  | .top => .go (s.finishDecode false s.bufLen)
  | .picExt => s.afterExtensions none
  | .slices => .go (s.finishPicture false)
  | .skipSlices => .go ((s.setPhase .awaitPictureStart).finishDecode false s.bufLen)

-- ---------------------------------------------------------------- extensions

/-- An extension identifier that is skipped (R310, R311). -/
def extensionSkipped (id : Nat) (s : State) : Flow :=
  match s.ctx with
  | .extId m => .go (((s.consume 4).log (.skippedExtension id (s.cmd.bp + 4))).scan m)
  | _ => .fault .outOfContext

/-- An extension identifier whose fields are read (R310). -/
def extensionRead (fields : ScanMode → Ctx) (s : State) : Flow :=
  match s.ctx with
  | .extId m => .go ((s.consume 4).setCtx (fields m))
  | _ => .fault .outOfContext

/-- Identifier 3 (R310): read under `P_LOAD_MATRICES = iso`, skipped otherwise. -/
def quantMatrixId (s : State) : Flow :=
  match s.cfg.loadMatrices with
  | .iso => extensionRead .quantMatrix s
  | .ignore => extensionSkipped 3 s

/-- A new intra matrix, where one was sent (R306). -/
def loadOptional (old : List Byte) : Option (List Byte) → List Byte
  | none => old
  | some m => loadMatrix old m

/-- `quantMatrixExtension()` (R306). -/
def quantMatrixFields (a b c d : Option (List Byte)) (s : State) : Flow :=
  match s.ctx with
  | .quantMatrix m =>
    .go (((s.consume (matrixLen a + matrixLen b + matrixLen c + matrixLen d)).onSeq fun r =>
      { r with intraQ := loadOptional r.intraQ a, nonIntraQ := loadOptional r.nonIntraQ b }).scan m)
  | _ => .fault .outOfContext

/-- `sequenceExtension()` (R312): all fields are read, then the chroma format and the size extensions are checked. -/
def sequenceExtensionFields (pl : BitVec 8) (prog : Bool) (cf hx vx : BitVec 2) (bx : BitVec 12) (vbvx : BitVec 8)
    (ld : Bool) (fn : BitVec 2) (fd : BitVec 5) (s : State) : Flow :=
  match s.ctx with
  | .seqExt m =>
    let s1 := (s.consume 44).onSeq fun r =>
      { r with profile_and_level_indication := pl, progressive_sequence := prog, chroma_format := cf,
               horizontal_size_extension := hx, vertical_size_extension := vx, bit_rate_extension := bx,
               vbv_buffer_size_extension := vbvx, low_delay := ld, frame_rate_extension_n := fn,
               frame_rate_extension_d := fd }
    if cf ≠ 1 then .refuse (.chromaFormat s1)
    else if hx ≠ 0 ∨ vx ≠ 0 then .refuse (.sizeExtension s1)
    else .go (s1.scan m)
  | _ => .fault .outOfContext

/-- The composite display registers (R330): written only when the flag is 1. -/
def PictureRegs.setComposite (r : PictureRegs) : Option CompositeDisplay → PictureRegs
  | none => { r with composite_display_flag := false }
  | some d =>
    { r with composite_display_flag := true, v_axis := d.v_axis, field_sequence := d.field_sequence,
             sub_carrier := d.sub_carrier, burst_amplitude := d.burst_amplitude,
             sub_carrier_phase := d.sub_carrier_phase }

/-- Bits of the composite display fields after their flag (R330). -/
def compositeLen : Option CompositeDisplay → Nat
  | none => 0
  | some _ => 20

/-- `pictureCodingExtension()` (R330). -/
def pictureCodingExtensionFields (f00 f01 f10 f11 : BitVec 4) (dcp ps : BitVec 2)
    (tff fpfd cmv qst ivf alt rff c420 pf : Bool) (cd : Option CompositeDisplay) (s : State) : Flow :=
  match s.ctx with
  | .picCodingExt m =>
    .go (((s.consume (30 + compositeLen cd)).onPic fun r =>
      ({ r with f_code := ⟨⟨f00, f01⟩, ⟨f10, f11⟩⟩, intra_dc_precision := dcp, picture_structure := ps,
                top_field_first := tff, frame_pred_frame_dct := fpfd, concealment_motion_vectors := cmv,
                q_scale_type := qst, intra_vlc_format := ivf, alternate_scan := alt, repeat_first_field := rff,
                chroma_420_type := c420, progressive_frame := pf, pceSeen := true }).setComposite cd).scan m)
  | _ => .fault .outOfContext

-- ---------------------------------------------------------------- sequence header, GOP, picture header

/-- The quantiser matrices a sequence header leaves (R303): under `iso` the defaults, then those it carries; unchanged
under `ignore`. -/
def SequenceRegs.headerMatrices (r : SequenceRegs) (p : LoadMatrices) (intra nonIntra : Option (List Byte)) :
    SequenceRegs :=
  match p with
  | .ignore => r
  | .iso => { r with intraQ := loadOptional defaultIntra intra, nonIntraQ := loadOptional defaultNonIntra nonIntra }

/-- The geometry refusals (R305). -/
def badGeometry (hs vs : BitVec 12) : Bool := hs == 0 || vs == 0 || decide (2800 < vs.toNat)

/-- `sequenceHeader()` but for the geometry (R303). -/
def State.sequenceFields (s : State) (ar fr : BitVec 4) (br : BitVec 18) (vbv : BitVec 10) (cp : Bool)
    (intra nonIntra : Option (List Byte)) : State :=
  (s.consume (62 + matrixLen intra + matrixLen nonIntra)).onSeq fun r =>
    ({ r with aspect_ratio_information := ar, frame_rate_code := fr, bit_rate_value := br,
              vbv_buffer_size_value := vbv, constrained_parameters_flag := cp,
              load_intra_quantiser_matrix := intra.isSome,
              load_non_intra_quantiser_matrix := nonIntra.isSome }).headerMatrices s.cfg.loadMatrices intra nonIntra

/-- The top loop after a sequence header and its allocation (R592, R675). -/
def afterAlloc (r : Bool × State) : State :=
  if r.1 then (r.2.setPhase .awaitPictureStart).scan .top else r.2.finishDecode false r.2.bufLen

/-- `sequenceHeader()` (R303 to R305) and the allocation check (R592, R599). A geometry is refused before any register is
written (R305), past the header's bits. The outcome of an allocation is a draw (`P_ALLOC`, D32). -/
def sequenceHeaderFields (hs vs : BitVec 12) (ar fr : BitVec 4) (br : BitVec 18) (vbv : BitVec 10) (cp : Bool)
    (intra nonIntra : Option (List Byte)) (s : State) : Flow :=
  match s.ctx with
  | .seqHeader =>
    let s1 := s.sequenceFields ar fr br vbv cp intra nonIntra
    if badGeometry hs vs then .refuse (.geometry (s.setBp s1.cmd.bp))
    else
      let s2 := s1.onSeq fun r => { r with horizontal_size_value := hs, vertical_size_value := vs }
      .go (afterAlloc (s2.allocWith (Config.allocOk s2.cmd.cmdNo s2.cmd.bp)))
  | _ => .fault .outOfContext

/-- `groupOfPictures()` (R313): nothing is read. -/
def gopFields (s : State) : Flow :=
  match s.ctx with
  | .gop => .go (s.scan .top)
  | _ => .fault .outOfContext

/-- `resetPictureRegisters()` (R42): the registers R42 names; the others keep their values. -/
def PictureRegs.resetPicture (r : PictureRegs) : PictureRegs :=
  { PictureRegs.reset with
      temporal_reference := r.temporal_reference, picture_coding_type := r.picture_coding_type,
      vbv_delay := r.vbv_delay, v_axis := r.v_axis, field_sequence := r.field_sequence, sub_carrier := r.sub_carrier,
      burst_amplitude := r.burst_amplitude, sub_carrier_phase := r.sub_carrier_phase }

/-- The forward vector fields of a picture header (R320). -/
def PictureRegs.setForward (r : PictureRegs) (fullPel : Bool) (fCode : BitVec 3) : PictureRegs :=
  { r with full_pel_forward_vector := fullPel, forward_f_code := fCode }

/-- The backward vector fields of a picture header (R320). -/
def PictureRegs.setBackward (r : PictureRegs) (fullPel : Bool) (fCode : BitVec 3) : PictureRegs :=
  { r with full_pel_backward_vector := fullPel, backward_f_code := fCode }

/-- `pictureHeader()` (R320): `fields` writes the vector fields the coding type carries; `len` bits precede the chain. -/
def pictureHeaderFields (len : Nat) (tr : BitVec 10) (ct : BitVec 3) (vd : BitVec 16)
    (fields : PictureRegs → PictureRegs) (extra : List Byte) (s : State) : Flow :=
  match s.ctx with
  | .picHeader =>
    .go (((s.consume (len + chainLen extra)).onPic fun r =>
      fields { r.resetPicture with temporal_reference := tr, picture_coding_type := ct, vbv_delay := vd }).scan .picExt)
  | _ => .fault .outOfContext

-- ---------------------------------------------------------------- slice header

/-- The start of a slice's macroblocks (R610): predictors and previous type reset, the first increment due, from 0. -/
def State.beginSlice (s : State) : State :=
  (((s.resetDcPred).onSlc fun r => { r with pmv := zeroPmv, mvfs := Pair.const (Pair.const false), mbaInc := 0 }).onMb
    fun m => { m with prevMbType := .empty }).setCtx (.mba true)

/-- `sliceHeader(code)` (R340): `rest` bits follow the quantiser code. -/
def sliceHeaderFields (q : BitVec 5) (rest : Nat) (s : State) : Flow :=
  match s.ctx with
  | .sliceHeader =>
    if q = 0 then .corrupt .forbiddenQuant ((s.consume 5).onSlc fun r => { r with quantiser_scale_code := q })
    else .go (((s.consume (5 + rest)).setQuant q).beginSlice)
  | _ => .fault .outOfContext

end Sys2Proof.Machine
end

