-- ==== Sys2Proof/Machine/ExtensionIds.lean ====
section
/-! DEFINITION. The meanings of the extension identifiers (R163, R310): one definition for each
row of the opcode table. -/

namespace Sys2Proof.Machine

/-- `extension id 0 reserved`: R310, R311. -/
def exec_extension_id_0_reserved (st : State) : Host.Outcome State Fault Refusal :=
  (extensionSkipped 0 st).finish

/-- `extension id 1 sequence_extension`: R310, R312. -/
def exec_extension_id_1_sequence_extension (st : State) : Host.Outcome State Fault Refusal :=
  (extensionRead .seqExt st).finish

/-- `extension id 2 sequence_display_extension`: R310, R311. -/
def exec_extension_id_2_sequence_display_extension (st : State) : Host.Outcome State Fault Refusal :=
  (extensionSkipped 2 st).finish

/-- `extension id 3 quant_matrix_extension`: R310, R306, R311. -/
def exec_extension_id_3_quant_matrix_extension (st : State) : Host.Outcome State Fault Refusal :=
  (quantMatrixId st).finish

/-- `extension id 4 copyright_extension`: R310, R311. -/
def exec_extension_id_4_copyright_extension (st : State) : Host.Outcome State Fault Refusal :=
  (extensionSkipped 4 st).finish

/-- `extension id 5 sequence_scalable_extension`: R310, R311. -/
def exec_extension_id_5_sequence_scalable_extension (st : State) : Host.Outcome State Fault Refusal :=
  (extensionSkipped 5 st).finish

/-- `extension id 6 reserved`: R310, R311. -/
def exec_extension_id_6_reserved (st : State) : Host.Outcome State Fault Refusal :=
  (extensionSkipped 6 st).finish

/-- `extension id 7 picture_display_extension`: R310, R311. -/
def exec_extension_id_7_picture_display_extension (st : State) : Host.Outcome State Fault Refusal :=
  (extensionSkipped 7 st).finish

/-- `extension id 8 picture_coding_extension`: R310, R330. -/
def exec_extension_id_8_picture_coding_extension (st : State) : Host.Outcome State Fault Refusal :=
  (extensionRead .picCodingExt st).finish

/-- `extension id 9 picture_spatial_scalable_extension`: R310, R311. -/
def exec_extension_id_9_picture_spatial_scalable_extension (st : State) : Host.Outcome State Fault Refusal :=
  (extensionSkipped 9 st).finish

/-- `extension id 10 picture_temporal_scalable_extension`: R310, R311. -/
def exec_extension_id_10_picture_temporal_scalable_extension (st : State) : Host.Outcome State Fault Refusal :=
  (extensionSkipped 10 st).finish

/-- `extension id 11 camera_parameters_extension`: R310, R311. -/
def exec_extension_id_11_camera_parameters_extension (st : State) : Host.Outcome State Fault Refusal :=
  (extensionSkipped 11 st).finish

/-- `extension id 12 itu_t_extension`: R310, R311. -/
def exec_extension_id_12_itu_t_extension (st : State) : Host.Outcome State Fault Refusal :=
  (extensionSkipped 12 st).finish

/-- `extension id 13 reserved`: R310, R311. -/
def exec_extension_id_13_reserved (st : State) : Host.Outcome State Fault Refusal :=
  (extensionSkipped 13 st).finish

/-- `extension id 14 reserved`: R310, R311. -/
def exec_extension_id_14_reserved (st : State) : Host.Outcome State Fault Refusal :=
  (extensionSkipped 14 st).finish

/-- `extension id 15 reserved`: R310, R311. -/
def exec_extension_id_15_reserved (st : State) : Host.Outcome State Fault Refusal :=
  (extensionSkipped 15 st).finish

end Sys2Proof.Machine
end

