-- ==== Sys2Proof/Machine/Headers.lean ====
section
/-! DEFINITION. The meanings of the header and macroblock fields of fixed length (R153, R157): one definition for each
row of the opcode table. -/

namespace Sys2Proof.Machine

/-- `sequence_header fields`: R303 to R305, R599: sizes, fields and matrices, then geometry and allocation. The marker is not checked (D29). -/
def exec_sequence_header_fields (hs vs : BitVec 12) (ar fr : BitVec 4) (br : BitVec 18) (_ : Bool)
    (vbv : BitVec 10) (cp : Bool) (intra nonIntra : Option (List Byte)) (st : State) :
    Host.Outcome State Fault Refusal :=
  (sequenceHeaderFields hs vs ar fr br vbv cp intra nonIntra st).finish

/-- `sequence_extension fields`: R312. The marker is not checked (D29). -/
def exec_sequence_extension_fields (pl : BitVec 8) (prog : Bool) (cf hx vx : BitVec 2) (bx : BitVec 12)
    (_ : Bool) (vbvx : BitVec 8) (ld : Bool) (fn : BitVec 2) (fd : BitVec 5) (st : State) :
    Host.Outcome State Fault Refusal :=
  (sequenceExtensionFields pl prog cf hx vx bx vbvx ld fn fd st).finish

/-- `quant_matrix_extension fields`: R306. -/
def exec_quant_matrix_extension_fields (intra nonIntra chromaIntra chromaNonIntra : Option (List Byte))
    (st : State) : Host.Outcome State Fault Refusal :=
  (quantMatrixFields intra nonIntra chromaIntra chromaNonIntra st).finish

/-- `picture_coding_extension fields`: R330. -/
def exec_picture_coding_extension_fields (f00 f01 f10 f11 : BitVec 4) (dcp ps : BitVec 2)
    (tff fpfd cmv qst ivf alt rff c420 pf : Bool) (cd : Option CompositeDisplay) (st : State) :
    Host.Outcome State Fault Refusal :=
  (pictureCodingExtensionFields f00 f01 f10 f11 dcp ps tff fpfd cmv qst ivf alt rff c420 pf cd st).finish

/-- `group_of_pictures fields`: R313: a no-op. -/
def exec_group_of_pictures_fields (_ : BitVec 25) (_ _ : Bool) (st : State) : Host.Outcome State Fault Refusal :=
  (gopFields st).finish

/-- `picture_header I fields`: R320. -/
def exec_picture_header_I_fields (tr : BitVec 10) (vd : BitVec 16) (extra : List Byte) (st : State) :
    Host.Outcome State Fault Refusal :=
  (pictureHeaderFields 29 tr 1 vd id extra st).finish

/-- `picture_header P fields`: R320. -/
def exec_picture_header_P_fields (tr : BitVec 10) (vd : BitVec 16) (fpf : Bool) (ff : BitVec 3)
    (extra : List Byte) (st : State) : Host.Outcome State Fault Refusal :=
  (pictureHeaderFields 33 tr 2 vd (fun r => r.setForward fpf ff) extra st).finish

/-- `picture_header B fields`: R320. -/
def exec_picture_header_B_fields (tr : BitVec 10) (vd : BitVec 16) (fpf : Bool) (ff : BitVec 3) (fpb : Bool)
    (bf : BitVec 3) (extra : List Byte) (st : State) : Host.Outcome State Fault Refusal :=
  (pictureHeaderFields 37 tr 3 vd (fun r => (r.setForward fpf ff).setBackward fpb bf) extra st).finish

/-- `picture_header other type fields`: R320: a reserved coding type reads no vector fields. -/
def exec_picture_header_other_type_fields (tr : BitVec 10) (ct : BitVec 3) (vd : BitVec 16)
    (extra : List Byte) (st : State) : Host.Outcome State Fault Refusal :=
  (pictureHeaderFields 29 tr ct vd id extra st).finish

/-- `slice_header fields, no intra slice`: R340, R610. -/
def exec_slice_header_fields_no_intra_slice (q : BitVec 5) (st : State) : Host.Outcome State Fault Refusal :=
  (sliceHeaderFields q 1 st).finish

/-- `slice_header fields, intra slice`: R340, R342, R610: the 8 bits and the chain are discarded. -/
def exec_slice_header_fields_intra_slice (q : BitVec 5) (_ : BitVec 8) (extra : List Byte) (st : State) :
    Host.Outcome State Fault Refusal :=
  (sliceHeaderFields q (9 + chainLen extra) st).finish

/-- `frame_motion_type`: R430. -/
def exec_frame_motion_type (m : BitVec 2) (st : State) : Host.Outcome State Fault Refusal :=
  (motionTypeField m st).finish

/-- `dct_type`: R431. -/
def exec_dct_type (t : Bool) (st : State) : Host.Outcome State Fault Refusal :=
  (dctTypeField t st).finish

/-- `macroblock quantiser_scale_code`: R434. -/
def exec_macroblock_quantiser_scale_code (q : BitVec 5) (st : State) : Host.Outcome State Fault Refusal :=
  (mbQuantField q st).finish

/-- `motion_vertical_field_select`: R436, R440. -/
def exec_motion_vertical_field_select (f : Bool) (st : State) : Host.Outcome State Fault Refusal :=
  (fieldSelectField f st).finish

/-- `concealment marker_bit`: R444: read, not checked (D29). -/
def exec_concealment_marker_bit (_ : Bool) (st : State) : Host.Outcome State Fault Refusal :=
  (markerField st).finish

/-- `dct_dc_differential`: R372, R373. -/
def exec_dct_dc_differential (size v : Nat) (st : State) : Host.Outcome State Fault Refusal :=
  (dcDiffField size v st).finish

end Sys2Proof.Machine
end

