-- ==== Sys2Proof/Machine/MbaCodes.lean ====
section
/-! DEFINITION. The meanings of the macroblock address increments (B-1, R232): one definition for each
row of the opcode table. -/

namespace Sys2Proof.Machine

/-- `MBA 1`: R232, R611, R614. -/
def exec_MBA_1 (st : State) : Host.Outcome State Fault Refusal :=
  (mbaCode 1 1 st).finish

/-- `MBA 3`: R232, R611, R614. -/
def exec_MBA_3 (st : State) : Host.Outcome State Fault Refusal :=
  (mbaCode 3 3 st).finish

/-- `MBA 2`: R232, R611, R614. -/
def exec_MBA_2 (st : State) : Host.Outcome State Fault Refusal :=
  (mbaCode 3 2 st).finish

/-- `MBA 5`: R232, R611, R614. -/
def exec_MBA_5 (st : State) : Host.Outcome State Fault Refusal :=
  (mbaCode 4 5 st).finish

/-- `MBA 4`: R232, R611, R614. -/
def exec_MBA_4 (st : State) : Host.Outcome State Fault Refusal :=
  (mbaCode 4 4 st).finish

/-- `MBA 7`: R232, R611, R614. -/
def exec_MBA_7 (st : State) : Host.Outcome State Fault Refusal :=
  (mbaCode 5 7 st).finish

/-- `MBA 6`: R232, R611, R614. -/
def exec_MBA_6 (st : State) : Host.Outcome State Fault Refusal :=
  (mbaCode 5 6 st).finish

/-- `MBA 9`: R232, R611, R614. -/
def exec_MBA_9 (st : State) : Host.Outcome State Fault Refusal :=
  (mbaCode 7 9 st).finish

/-- `MBA 8`: R232, R611, R614. -/
def exec_MBA_8 (st : State) : Host.Outcome State Fault Refusal :=
  (mbaCode 7 8 st).finish

/-- `MBA 15`: R232, R611, R614. -/
def exec_MBA_15 (st : State) : Host.Outcome State Fault Refusal :=
  (mbaCode 8 15 st).finish

/-- `MBA 14`: R232, R611, R614. -/
def exec_MBA_14 (st : State) : Host.Outcome State Fault Refusal :=
  (mbaCode 8 14 st).finish

/-- `MBA 13`: R232, R611, R614. -/
def exec_MBA_13 (st : State) : Host.Outcome State Fault Refusal :=
  (mbaCode 8 13 st).finish

/-- `MBA 12`: R232, R611, R614. -/
def exec_MBA_12 (st : State) : Host.Outcome State Fault Refusal :=
  (mbaCode 8 12 st).finish

/-- `MBA 11`: R232, R611, R614. -/
def exec_MBA_11 (st : State) : Host.Outcome State Fault Refusal :=
  (mbaCode 8 11 st).finish

/-- `MBA 10`: R232, R611, R614. -/
def exec_MBA_10 (st : State) : Host.Outcome State Fault Refusal :=
  (mbaCode 8 10 st).finish

/-- `MBA 21`: R232, R611, R614. -/
def exec_MBA_21 (st : State) : Host.Outcome State Fault Refusal :=
  (mbaCode 10 21 st).finish

/-- `MBA 20`: R232, R611, R614. -/
def exec_MBA_20 (st : State) : Host.Outcome State Fault Refusal :=
  (mbaCode 10 20 st).finish

/-- `MBA 19`: R232, R611, R614. -/
def exec_MBA_19 (st : State) : Host.Outcome State Fault Refusal :=
  (mbaCode 10 19 st).finish

/-- `MBA 18`: R232, R611, R614. -/
def exec_MBA_18 (st : State) : Host.Outcome State Fault Refusal :=
  (mbaCode 10 18 st).finish

/-- `MBA 17`: R232, R611, R614. -/
def exec_MBA_17 (st : State) : Host.Outcome State Fault Refusal :=
  (mbaCode 10 17 st).finish

/-- `MBA 16`: R232, R611, R614. -/
def exec_MBA_16 (st : State) : Host.Outcome State Fault Refusal :=
  (mbaCode 10 16 st).finish

/-- `MBA ESC`: R232, R612. -/
def exec_MBA_ESC (st : State) : Host.Outcome State Fault Refusal :=
  (mbaEscape 11 st).finish

/-- `MBA 33`: R232, R611, R614. -/
def exec_MBA_33 (st : State) : Host.Outcome State Fault Refusal :=
  (mbaCode 11 33 st).finish

/-- `MBA 32`: R232, R611, R614. -/
def exec_MBA_32 (st : State) : Host.Outcome State Fault Refusal :=
  (mbaCode 11 32 st).finish

/-- `MBA 31`: R232, R611, R614. -/
def exec_MBA_31 (st : State) : Host.Outcome State Fault Refusal :=
  (mbaCode 11 31 st).finish

/-- `MBA 30`: R232, R611, R614. -/
def exec_MBA_30 (st : State) : Host.Outcome State Fault Refusal :=
  (mbaCode 11 30 st).finish

/-- `MBA 29`: R232, R611, R614. -/
def exec_MBA_29 (st : State) : Host.Outcome State Fault Refusal :=
  (mbaCode 11 29 st).finish

/-- `MBA 28`: R232, R611, R614. -/
def exec_MBA_28 (st : State) : Host.Outcome State Fault Refusal :=
  (mbaCode 11 28 st).finish

/-- `MBA 27`: R232, R611, R614. -/
def exec_MBA_27 (st : State) : Host.Outcome State Fault Refusal :=
  (mbaCode 11 27 st).finish

/-- `MBA 26`: R232, R611, R614. -/
def exec_MBA_26 (st : State) : Host.Outcome State Fault Refusal :=
  (mbaCode 11 26 st).finish

/-- `MBA 25`: R232, R611, R614. -/
def exec_MBA_25 (st : State) : Host.Outcome State Fault Refusal :=
  (mbaCode 11 25 st).finish

/-- `MBA 24`: R232, R611, R614. -/
def exec_MBA_24 (st : State) : Host.Outcome State Fault Refusal :=
  (mbaCode 11 24 st).finish

/-- `MBA 23`: R232, R611, R614. -/
def exec_MBA_23 (st : State) : Host.Outcome State Fault Refusal :=
  (mbaCode 11 23 st).finish

/-- `MBA 22`: R232, R611, R614. -/
def exec_MBA_22 (st : State) : Host.Outcome State Fault Refusal :=
  (mbaCode 11 22 st).finish

end Sys2Proof.Machine
end

