-- ==== Sys2Proof/Machine/MvCodes.lean ====
section
/-! DEFINITION. The meanings of the motion codes (B-10, R237): one definition for each
row of the opcode table. -/

namespace Sys2Proof.Machine

/-- `MV 0`: R237, R437. -/
def exec_MV_0 (st : State) : Host.Outcome State Fault Refusal :=
  (mvCode 1 0 st).finish

/-- `MV 1`: R237, R437. -/
def exec_MV_1 (st : State) : Host.Outcome State Fault Refusal :=
  (mvCode 2 1 st).finish

/-- `MV 2`: R237, R437. -/
def exec_MV_2 (st : State) : Host.Outcome State Fault Refusal :=
  (mvCode 3 2 st).finish

/-- `MV 3`: R237, R437. -/
def exec_MV_3 (st : State) : Host.Outcome State Fault Refusal :=
  (mvCode 4 3 st).finish

/-- `MV 4`: R237, R437. -/
def exec_MV_4 (st : State) : Host.Outcome State Fault Refusal :=
  (mvCode 6 4 st).finish

/-- `MV 7`: R237, R437. -/
def exec_MV_7 (st : State) : Host.Outcome State Fault Refusal :=
  (mvCode 7 7 st).finish

/-- `MV 6`: R237, R437. -/
def exec_MV_6 (st : State) : Host.Outcome State Fault Refusal :=
  (mvCode 7 6 st).finish

/-- `MV 5`: R237, R437. -/
def exec_MV_5 (st : State) : Host.Outcome State Fault Refusal :=
  (mvCode 7 5 st).finish

/-- `MV 10`: R237, R437. -/
def exec_MV_10 (st : State) : Host.Outcome State Fault Refusal :=
  (mvCode 9 10 st).finish

/-- `MV 9`: R237, R437. -/
def exec_MV_9 (st : State) : Host.Outcome State Fault Refusal :=
  (mvCode 9 9 st).finish

/-- `MV 8`: R237, R437. -/
def exec_MV_8 (st : State) : Host.Outcome State Fault Refusal :=
  (mvCode 9 8 st).finish

/-- `MV 16`: R237, R437. -/
def exec_MV_16 (st : State) : Host.Outcome State Fault Refusal :=
  (mvCode 10 16 st).finish

/-- `MV 15`: R237, R437. -/
def exec_MV_15 (st : State) : Host.Outcome State Fault Refusal :=
  (mvCode 10 15 st).finish

/-- `MV 14`: R237, R437. -/
def exec_MV_14 (st : State) : Host.Outcome State Fault Refusal :=
  (mvCode 10 14 st).finish

/-- `MV 13`: R237, R437. -/
def exec_MV_13 (st : State) : Host.Outcome State Fault Refusal :=
  (mvCode 10 13 st).finish

/-- `MV 12`: R237, R437. -/
def exec_MV_12 (st : State) : Host.Outcome State Fault Refusal :=
  (mvCode 10 12 st).finish

/-- `MV 11`: R237, R437. -/
def exec_MV_11 (st : State) : Host.Outcome State Fault Refusal :=
  (mvCode 10 11 st).finish

end Sys2Proof.Machine
end

