-- ==== Sys2Proof/Machine/StartCodes.lean ====
section
/-! DEFINITION. The meanings of the start codes (R152): one definition for each
row of the opcode table. -/

namespace Sys2Proof.Machine

/-- `picture_start_code`: R152, R320. -/
def exec_picture_start_code (st : State) : Host.Outcome State Fault Refusal :=
  (startCodeElem 0x00 st).finish

/-- `slice_start_code`: R152, R592, R597. -/
def exec_slice_start_code (v : BitVec 8) (st : State) : Host.Outcome State Fault Refusal :=
  (startCodeElem v st).finish

/-- `reserved_B0`: R152, R315. -/
def exec_reserved_B0 (st : State) : Host.Outcome State Fault Refusal :=
  (startCodeElem 0xB0 st).finish

/-- `reserved_B1`: R152, R315. -/
def exec_reserved_B1 (st : State) : Host.Outcome State Fault Refusal :=
  (startCodeElem 0xB1 st).finish

/-- `reserved_B6`: R152, R315. -/
def exec_reserved_B6 (st : State) : Host.Outcome State Fault Refusal :=
  (startCodeElem 0xB6 st).finish

/-- `user_data_start_code`: R152, R302. -/
def exec_user_data_start_code (st : State) : Host.Outcome State Fault Refusal :=
  (startCodeElem 0xB2 st).finish

/-- `sequence_header_code`: R152, R303. -/
def exec_sequence_header_code (st : State) : Host.Outcome State Fault Refusal :=
  (startCodeElem 0xB3 st).finish

/-- `sequence_error_code`: R152, R315. -/
def exec_sequence_error_code (st : State) : Host.Outcome State Fault Refusal :=
  (startCodeElem 0xB4 st).finish

/-- `extension_start_code`: R152, R310. -/
def exec_extension_start_code (st : State) : Host.Outcome State Fault Refusal :=
  (startCodeElem 0xB5 st).finish

/-- `sequence_end_code`: R152, R314. -/
def exec_sequence_end_code (st : State) : Host.Outcome State Fault Refusal :=
  (startCodeElem 0xB7 st).finish

/-- `group_start_code`: R152, R313. -/
def exec_group_start_code (st : State) : Host.Outcome State Fault Refusal :=
  (startCodeElem 0xB8 st).finish

/-- `system_start_code`: R152, R315. -/
def exec_system_start_code (c : BitVec 8) (st : State) : Host.Outcome State Fault Refusal :=
  (startCodeElem c st).finish

end Sys2Proof.Machine
end

