-- ==== Sys2Proof/Machine/TypeCodes.lean ====
section
/-! DEFINITION. The meanings of the macroblock types (B-2 to B-4, R233 to R235): one definition for each
row of the opcode table. -/

namespace Sys2Proof.Machine

/-- `MBTYPE_I I`: R233, R430. -/
def exec_MBTYPE_I_I (st : State) : Host.Outcome State Fault Refusal :=
  (typeCode 1 ⟨false, false, false, false, true⟩ st).finish

/-- `MBTYPE_I Q,I`: R233, R430. -/
def exec_MBTYPE_I_Q_I (st : State) : Host.Outcome State Fault Refusal :=
  (typeCode 2 ⟨true, false, false, false, true⟩ st).finish

/-- `MBTYPE_P F,P`: R234, R430. -/
def exec_MBTYPE_P_F_P (st : State) : Host.Outcome State Fault Refusal :=
  (typeCode 1 ⟨false, true, false, true, false⟩ st).finish

/-- `MBTYPE_P P`: R234, R430. -/
def exec_MBTYPE_P_P (st : State) : Host.Outcome State Fault Refusal :=
  (typeCode 2 ⟨false, false, false, true, false⟩ st).finish

/-- `MBTYPE_P F`: R234, R430. -/
def exec_MBTYPE_P_F (st : State) : Host.Outcome State Fault Refusal :=
  (typeCode 3 ⟨false, true, false, false, false⟩ st).finish

/-- `MBTYPE_P Q,P`: R234, R430. -/
def exec_MBTYPE_P_Q_P (st : State) : Host.Outcome State Fault Refusal :=
  (typeCode 5 ⟨true, false, false, true, false⟩ st).finish

/-- `MBTYPE_P Q,F,P`: R234, R430. -/
def exec_MBTYPE_P_Q_F_P (st : State) : Host.Outcome State Fault Refusal :=
  (typeCode 5 ⟨true, true, false, true, false⟩ st).finish

/-- `MBTYPE_P I`: R234, R430. -/
def exec_MBTYPE_P_I (st : State) : Host.Outcome State Fault Refusal :=
  (typeCode 5 ⟨false, false, false, false, true⟩ st).finish

/-- `MBTYPE_P Q,I`: R234, R430. -/
def exec_MBTYPE_P_Q_I (st : State) : Host.Outcome State Fault Refusal :=
  (typeCode 6 ⟨true, false, false, false, true⟩ st).finish

/-- `MBTYPE_B F,B`: R235, R430. -/
def exec_MBTYPE_B_F_B (st : State) : Host.Outcome State Fault Refusal :=
  (typeCode 2 ⟨false, true, true, false, false⟩ st).finish

/-- `MBTYPE_B F,B,P`: R235, R430. -/
def exec_MBTYPE_B_F_B_P (st : State) : Host.Outcome State Fault Refusal :=
  (typeCode 2 ⟨false, true, true, true, false⟩ st).finish

/-- `MBTYPE_B B`: R235, R430. -/
def exec_MBTYPE_B_B (st : State) : Host.Outcome State Fault Refusal :=
  (typeCode 3 ⟨false, false, true, false, false⟩ st).finish

/-- `MBTYPE_B B,P`: R235, R430. -/
def exec_MBTYPE_B_B_P (st : State) : Host.Outcome State Fault Refusal :=
  (typeCode 3 ⟨false, false, true, true, false⟩ st).finish

/-- `MBTYPE_B F`: R235, R430. -/
def exec_MBTYPE_B_F (st : State) : Host.Outcome State Fault Refusal :=
  (typeCode 4 ⟨false, true, false, false, false⟩ st).finish

/-- `MBTYPE_B F,P`: R235, R430. -/
def exec_MBTYPE_B_F_P (st : State) : Host.Outcome State Fault Refusal :=
  (typeCode 4 ⟨false, true, false, true, false⟩ st).finish

/-- `MBTYPE_B Q,F,B,P`: R235, R430. -/
def exec_MBTYPE_B_Q_F_B_P (st : State) : Host.Outcome State Fault Refusal :=
  (typeCode 5 ⟨true, true, true, true, false⟩ st).finish

/-- `MBTYPE_B I`: R235, R430. -/
def exec_MBTYPE_B_I (st : State) : Host.Outcome State Fault Refusal :=
  (typeCode 5 ⟨false, false, false, false, true⟩ st).finish

/-- `MBTYPE_B Q,I`: R235, R430. -/
def exec_MBTYPE_B_Q_I (st : State) : Host.Outcome State Fault Refusal :=
  (typeCode 6 ⟨true, false, false, false, true⟩ st).finish

/-- `MBTYPE_B Q,B,P`: R235, R430. -/
def exec_MBTYPE_B_Q_B_P (st : State) : Host.Outcome State Fault Refusal :=
  (typeCode 6 ⟨true, false, true, true, false⟩ st).finish

/-- `MBTYPE_B Q,F,P`: R235, R430. -/
def exec_MBTYPE_B_Q_F_P (st : State) : Host.Outcome State Fault Refusal :=
  (typeCode 6 ⟨true, true, false, true, false⟩ st).finish

end Sys2Proof.Machine
end

