-- ==== Sys2Proof/Machine/Dispatch.lean ====
section
/-! DEFINITION. The dispatch: one arm for each row of the opcode table. -/

namespace Sys2Proof.Machine

def exec (i : Instr) (s : State) : Host.Outcome State Fault Refusal :=
  match i with
  | .picture_start_code => Sys2Proof.Machine.exec_picture_start_code s
  | .slice_start_code v => Sys2Proof.Machine.exec_slice_start_code v s
  | .reserved_B0 => Sys2Proof.Machine.exec_reserved_B0 s
  | .reserved_B1 => Sys2Proof.Machine.exec_reserved_B1 s
  | .reserved_B6 => Sys2Proof.Machine.exec_reserved_B6 s
  | .user_data_start_code => Sys2Proof.Machine.exec_user_data_start_code s
  | .sequence_header_code => Sys2Proof.Machine.exec_sequence_header_code s
  | .sequence_error_code => Sys2Proof.Machine.exec_sequence_error_code s
  | .extension_start_code => Sys2Proof.Machine.exec_extension_start_code s
  | .sequence_end_code => Sys2Proof.Machine.exec_sequence_end_code s
  | .group_start_code => Sys2Proof.Machine.exec_group_start_code s
  | .system_start_code c => Sys2Proof.Machine.exec_system_start_code c s
  | .extension_id_0_reserved => Sys2Proof.Machine.exec_extension_id_0_reserved s
  | .extension_id_1_sequence_extension => Sys2Proof.Machine.exec_extension_id_1_sequence_extension s
  | .extension_id_2_sequence_display_extension => Sys2Proof.Machine.exec_extension_id_2_sequence_display_extension s
  | .extension_id_3_quant_matrix_extension => Sys2Proof.Machine.exec_extension_id_3_quant_matrix_extension s
  | .extension_id_4_copyright_extension => Sys2Proof.Machine.exec_extension_id_4_copyright_extension s
  | .extension_id_5_sequence_scalable_extension => Sys2Proof.Machine.exec_extension_id_5_sequence_scalable_extension s
  | .extension_id_6_reserved => Sys2Proof.Machine.exec_extension_id_6_reserved s
  | .extension_id_7_picture_display_extension => Sys2Proof.Machine.exec_extension_id_7_picture_display_extension s
  | .extension_id_8_picture_coding_extension => Sys2Proof.Machine.exec_extension_id_8_picture_coding_extension s
  | .extension_id_9_picture_spatial_scalable_extension => Sys2Proof.Machine.exec_extension_id_9_picture_spatial_scalable_extension s
  | .extension_id_10_picture_temporal_scalable_extension => Sys2Proof.Machine.exec_extension_id_10_picture_temporal_scalable_extension s
  | .extension_id_11_camera_parameters_extension => Sys2Proof.Machine.exec_extension_id_11_camera_parameters_extension s
  | .extension_id_12_itu_t_extension => Sys2Proof.Machine.exec_extension_id_12_itu_t_extension s
  | .extension_id_13_reserved => Sys2Proof.Machine.exec_extension_id_13_reserved s
  | .extension_id_14_reserved => Sys2Proof.Machine.exec_extension_id_14_reserved s
  | .extension_id_15_reserved => Sys2Proof.Machine.exec_extension_id_15_reserved s
  | .sequence_header_fields hs vs ar fr br mk vbv cp intra nonIntra => Sys2Proof.Machine.exec_sequence_header_fields hs vs ar fr br mk vbv cp intra nonIntra s
  | .sequence_extension_fields pl prog cf hx vx bx mk vbvx ld fn fd => Sys2Proof.Machine.exec_sequence_extension_fields pl prog cf hx vx bx mk vbvx ld fn fd s
  | .quant_matrix_extension_fields intra nonIntra chromaIntra chromaNonIntra => Sys2Proof.Machine.exec_quant_matrix_extension_fields intra nonIntra chromaIntra chromaNonIntra s
  | .picture_coding_extension_fields f00 f01 f10 f11 dcp ps tff fpfd cmv qst ivf alt rff c420 pf cd => Sys2Proof.Machine.exec_picture_coding_extension_fields f00 f01 f10 f11 dcp ps tff fpfd cmv qst ivf alt rff c420 pf cd s
  | .group_of_pictures_fields tc cg bl => Sys2Proof.Machine.exec_group_of_pictures_fields tc cg bl s
  | .picture_header_I_fields tr vd extra => Sys2Proof.Machine.exec_picture_header_I_fields tr vd extra s
  | .picture_header_P_fields tr vd fpf ff extra => Sys2Proof.Machine.exec_picture_header_P_fields tr vd fpf ff extra s
  | .picture_header_B_fields tr vd fpf ff fpb bf extra => Sys2Proof.Machine.exec_picture_header_B_fields tr vd fpf ff fpb bf extra s
  | .picture_header_other_type_fields tr ct vd extra => Sys2Proof.Machine.exec_picture_header_other_type_fields tr ct vd extra s
  | .slice_header_fields__no_intra_slice q => Sys2Proof.Machine.exec_slice_header_fields_no_intra_slice q s
  | .slice_header_fields__intra_slice q x extra => Sys2Proof.Machine.exec_slice_header_fields_intra_slice q x extra s
  | .frame_motion_type m => Sys2Proof.Machine.exec_frame_motion_type m s
  | .dct_type t => Sys2Proof.Machine.exec_dct_type t s
  | .macroblock_quantiser_scale_code q => Sys2Proof.Machine.exec_macroblock_quantiser_scale_code q s
  | .motion_vertical_field_select f => Sys2Proof.Machine.exec_motion_vertical_field_select f s
  | .concealment_marker_bit b => Sys2Proof.Machine.exec_concealment_marker_bit b s
  | .dct_dc_differential size v => Sys2Proof.Machine.exec_dct_dc_differential size v s
  | .MBA_1 => Sys2Proof.Machine.exec_MBA_1 s
  | .MBA_3 => Sys2Proof.Machine.exec_MBA_3 s
  | .MBA_2 => Sys2Proof.Machine.exec_MBA_2 s
  | .MBA_5 => Sys2Proof.Machine.exec_MBA_5 s
  | .MBA_4 => Sys2Proof.Machine.exec_MBA_4 s
  | .MBA_7 => Sys2Proof.Machine.exec_MBA_7 s
  | .MBA_6 => Sys2Proof.Machine.exec_MBA_6 s
  | .MBA_9 => Sys2Proof.Machine.exec_MBA_9 s
  | .MBA_8 => Sys2Proof.Machine.exec_MBA_8 s
  | .MBA_15 => Sys2Proof.Machine.exec_MBA_15 s
  | .MBA_14 => Sys2Proof.Machine.exec_MBA_14 s
  | .MBA_13 => Sys2Proof.Machine.exec_MBA_13 s
  | .MBA_12 => Sys2Proof.Machine.exec_MBA_12 s
  | .MBA_11 => Sys2Proof.Machine.exec_MBA_11 s
  | .MBA_10 => Sys2Proof.Machine.exec_MBA_10 s
  | .MBA_21 => Sys2Proof.Machine.exec_MBA_21 s
  | .MBA_20 => Sys2Proof.Machine.exec_MBA_20 s
  | .MBA_19 => Sys2Proof.Machine.exec_MBA_19 s
  | .MBA_18 => Sys2Proof.Machine.exec_MBA_18 s
  | .MBA_17 => Sys2Proof.Machine.exec_MBA_17 s
  | .MBA_16 => Sys2Proof.Machine.exec_MBA_16 s
  | .MBA_ESC => Sys2Proof.Machine.exec_MBA_ESC s
  | .MBA_33 => Sys2Proof.Machine.exec_MBA_33 s
  | .MBA_32 => Sys2Proof.Machine.exec_MBA_32 s
  | .MBA_31 => Sys2Proof.Machine.exec_MBA_31 s
  | .MBA_30 => Sys2Proof.Machine.exec_MBA_30 s
  | .MBA_29 => Sys2Proof.Machine.exec_MBA_29 s
  | .MBA_28 => Sys2Proof.Machine.exec_MBA_28 s
  | .MBA_27 => Sys2Proof.Machine.exec_MBA_27 s
  | .MBA_26 => Sys2Proof.Machine.exec_MBA_26 s
  | .MBA_25 => Sys2Proof.Machine.exec_MBA_25 s
  | .MBA_24 => Sys2Proof.Machine.exec_MBA_24 s
  | .MBA_23 => Sys2Proof.Machine.exec_MBA_23 s
  | .MBA_22 => Sys2Proof.Machine.exec_MBA_22 s
  | .MBTYPE_I_I => Sys2Proof.Machine.exec_MBTYPE_I_I s
  | .MBTYPE_I_Q_I => Sys2Proof.Machine.exec_MBTYPE_I_Q_I s
  | .MBTYPE_P_F_P => Sys2Proof.Machine.exec_MBTYPE_P_F_P s
  | .MBTYPE_P_P => Sys2Proof.Machine.exec_MBTYPE_P_P s
  | .MBTYPE_P_F => Sys2Proof.Machine.exec_MBTYPE_P_F s
  | .MBTYPE_P_Q_P => Sys2Proof.Machine.exec_MBTYPE_P_Q_P s
  | .MBTYPE_P_Q_F_P => Sys2Proof.Machine.exec_MBTYPE_P_Q_F_P s
  | .MBTYPE_P_I => Sys2Proof.Machine.exec_MBTYPE_P_I s
  | .MBTYPE_P_Q_I => Sys2Proof.Machine.exec_MBTYPE_P_Q_I s
  | .MBTYPE_B_F_B => Sys2Proof.Machine.exec_MBTYPE_B_F_B s
  | .MBTYPE_B_F_B_P => Sys2Proof.Machine.exec_MBTYPE_B_F_B_P s
  | .MBTYPE_B_B => Sys2Proof.Machine.exec_MBTYPE_B_B s
  | .MBTYPE_B_B_P => Sys2Proof.Machine.exec_MBTYPE_B_B_P s
  | .MBTYPE_B_F => Sys2Proof.Machine.exec_MBTYPE_B_F s
  | .MBTYPE_B_F_P => Sys2Proof.Machine.exec_MBTYPE_B_F_P s
  | .MBTYPE_B_Q_F_B_P => Sys2Proof.Machine.exec_MBTYPE_B_Q_F_B_P s
  | .MBTYPE_B_I => Sys2Proof.Machine.exec_MBTYPE_B_I s
  | .MBTYPE_B_Q_I => Sys2Proof.Machine.exec_MBTYPE_B_Q_I s
  | .MBTYPE_B_Q_B_P => Sys2Proof.Machine.exec_MBTYPE_B_Q_B_P s
  | .MBTYPE_B_Q_F_P => Sys2Proof.Machine.exec_MBTYPE_B_Q_F_P s
  | .CBP_60 => Sys2Proof.Machine.exec_CBP_60 s
  | .CBP_32 => Sys2Proof.Machine.exec_CBP_32 s
  | .CBP_16 => Sys2Proof.Machine.exec_CBP_16 s
  | .CBP_8 => Sys2Proof.Machine.exec_CBP_8 s
  | .CBP_4 => Sys2Proof.Machine.exec_CBP_4 s
  | .CBP_62 => Sys2Proof.Machine.exec_CBP_62 s
  | .CBP_2 => Sys2Proof.Machine.exec_CBP_2 s
  | .CBP_61 => Sys2Proof.Machine.exec_CBP_61 s
  | .CBP_1 => Sys2Proof.Machine.exec_CBP_1 s
  | .CBP_56 => Sys2Proof.Machine.exec_CBP_56 s
  | .CBP_52 => Sys2Proof.Machine.exec_CBP_52 s
  | .CBP_44 => Sys2Proof.Machine.exec_CBP_44 s
  | .CBP_28 => Sys2Proof.Machine.exec_CBP_28 s
  | .CBP_40 => Sys2Proof.Machine.exec_CBP_40 s
  | .CBP_20 => Sys2Proof.Machine.exec_CBP_20 s
  | .CBP_48 => Sys2Proof.Machine.exec_CBP_48 s
  | .CBP_12 => Sys2Proof.Machine.exec_CBP_12 s
  | .CBP_63 => Sys2Proof.Machine.exec_CBP_63 s
  | .CBP_3 => Sys2Proof.Machine.exec_CBP_3 s
  | .CBP_36 => Sys2Proof.Machine.exec_CBP_36 s
  | .CBP_24 => Sys2Proof.Machine.exec_CBP_24 s
  | .CBP_34 => Sys2Proof.Machine.exec_CBP_34 s
  | .CBP_18 => Sys2Proof.Machine.exec_CBP_18 s
  | .CBP_10 => Sys2Proof.Machine.exec_CBP_10 s
  | .CBP_6 => Sys2Proof.Machine.exec_CBP_6 s
  | .CBP_33 => Sys2Proof.Machine.exec_CBP_33 s
  | .CBP_17 => Sys2Proof.Machine.exec_CBP_17 s
  | .CBP_9 => Sys2Proof.Machine.exec_CBP_9 s
  | .CBP_5 => Sys2Proof.Machine.exec_CBP_5 s
  | .CBP_58 => Sys2Proof.Machine.exec_CBP_58 s
  | .CBP_54 => Sys2Proof.Machine.exec_CBP_54 s
  | .CBP_46 => Sys2Proof.Machine.exec_CBP_46 s
  | .CBP_30 => Sys2Proof.Machine.exec_CBP_30 s
  | .CBP_57 => Sys2Proof.Machine.exec_CBP_57 s
  | .CBP_53 => Sys2Proof.Machine.exec_CBP_53 s
  | .CBP_45 => Sys2Proof.Machine.exec_CBP_45 s
  | .CBP_29 => Sys2Proof.Machine.exec_CBP_29 s
  | .CBP_38 => Sys2Proof.Machine.exec_CBP_38 s
  | .CBP_26 => Sys2Proof.Machine.exec_CBP_26 s
  | .CBP_37 => Sys2Proof.Machine.exec_CBP_37 s
  | .CBP_25 => Sys2Proof.Machine.exec_CBP_25 s
  | .CBP_43 => Sys2Proof.Machine.exec_CBP_43 s
  | .CBP_23 => Sys2Proof.Machine.exec_CBP_23 s
  | .CBP_51 => Sys2Proof.Machine.exec_CBP_51 s
  | .CBP_15 => Sys2Proof.Machine.exec_CBP_15 s
  | .CBP_42 => Sys2Proof.Machine.exec_CBP_42 s
  | .CBP_22 => Sys2Proof.Machine.exec_CBP_22 s
  | .CBP_50 => Sys2Proof.Machine.exec_CBP_50 s
  | .CBP_14 => Sys2Proof.Machine.exec_CBP_14 s
  | .CBP_41 => Sys2Proof.Machine.exec_CBP_41 s
  | .CBP_21 => Sys2Proof.Machine.exec_CBP_21 s
  | .CBP_49 => Sys2Proof.Machine.exec_CBP_49 s
  | .CBP_13 => Sys2Proof.Machine.exec_CBP_13 s
  | .CBP_35 => Sys2Proof.Machine.exec_CBP_35 s
  | .CBP_19 => Sys2Proof.Machine.exec_CBP_19 s
  | .CBP_11 => Sys2Proof.Machine.exec_CBP_11 s
  | .CBP_7 => Sys2Proof.Machine.exec_CBP_7 s
  | .CBP_0 => Sys2Proof.Machine.exec_CBP_0 s
  | .CBP_39 => Sys2Proof.Machine.exec_CBP_39 s
  | .CBP_27 => Sys2Proof.Machine.exec_CBP_27 s
  | .CBP_59 => Sys2Proof.Machine.exec_CBP_59 s
  | .CBP_55 => Sys2Proof.Machine.exec_CBP_55 s
  | .CBP_47 => Sys2Proof.Machine.exec_CBP_47 s
  | .CBP_31 => Sys2Proof.Machine.exec_CBP_31 s
  | .MV_0 => Sys2Proof.Machine.exec_MV_0 s
  | .MV_1 => Sys2Proof.Machine.exec_MV_1 s
  | .MV_2 => Sys2Proof.Machine.exec_MV_2 s
  | .MV_3 => Sys2Proof.Machine.exec_MV_3 s
  | .MV_4 => Sys2Proof.Machine.exec_MV_4 s
  | .MV_7 => Sys2Proof.Machine.exec_MV_7 s
  | .MV_6 => Sys2Proof.Machine.exec_MV_6 s
  | .MV_5 => Sys2Proof.Machine.exec_MV_5 s
  | .MV_10 => Sys2Proof.Machine.exec_MV_10 s
  | .MV_9 => Sys2Proof.Machine.exec_MV_9 s
  | .MV_8 => Sys2Proof.Machine.exec_MV_8 s
  | .MV_16 => Sys2Proof.Machine.exec_MV_16 s
  | .MV_15 => Sys2Proof.Machine.exec_MV_15 s
  | .MV_14 => Sys2Proof.Machine.exec_MV_14 s
  | .MV_13 => Sys2Proof.Machine.exec_MV_13 s
  | .MV_12 => Sys2Proof.Machine.exec_MV_12 s
  | .MV_11 => Sys2Proof.Machine.exec_MV_11 s
  | .DCL_1 => Sys2Proof.Machine.exec_DCL_1 s
  | .DCL_2 => Sys2Proof.Machine.exec_DCL_2 s
  | .DCL_0 => Sys2Proof.Machine.exec_DCL_0 s
  | .DCL_3 => Sys2Proof.Machine.exec_DCL_3 s
  | .DCL_4 => Sys2Proof.Machine.exec_DCL_4 s
  | .DCL_5 => Sys2Proof.Machine.exec_DCL_5 s
  | .DCL_6 => Sys2Proof.Machine.exec_DCL_6 s
  | .DCL_7 => Sys2Proof.Machine.exec_DCL_7 s
  | .DCL_8 => Sys2Proof.Machine.exec_DCL_8 s
  | .DCL_9 => Sys2Proof.Machine.exec_DCL_9 s
  | .DCL_10 => Sys2Proof.Machine.exec_DCL_10 s
  | .DCL_11 => Sys2Proof.Machine.exec_DCL_11 s
  | .DCC_0 => Sys2Proof.Machine.exec_DCC_0 s
  | .DCC_1 => Sys2Proof.Machine.exec_DCC_1 s
  | .DCC_2 => Sys2Proof.Machine.exec_DCC_2 s
  | .DCC_3 => Sys2Proof.Machine.exec_DCC_3 s
  | .DCC_4 => Sys2Proof.Machine.exec_DCC_4 s
  | .DCC_5 => Sys2Proof.Machine.exec_DCC_5 s
  | .DCC_6 => Sys2Proof.Machine.exec_DCC_6 s
  | .DCC_7 => Sys2Proof.Machine.exec_DCC_7 s
  | .DCC_8 => Sys2Proof.Machine.exec_DCC_8 s
  | .DCC_9 => Sys2Proof.Machine.exec_DCC_9 s
  | .DCC_10 => Sys2Proof.Machine.exec_DCC_10 s
  | .DCC_11 => Sys2Proof.Machine.exec_DCC_11 s
  | .DCT0_EOB => Sys2Proof.Machine.exec_DCT0_EOB s
  | .DCT0__0_1 sgn => Sys2Proof.Machine.exec_DCT0_0_1 sgn s
  | .DCT0__1_1 sgn => Sys2Proof.Machine.exec_DCT0_1_1 sgn s
  | .DCT0__0_2 sgn => Sys2Proof.Machine.exec_DCT0_0_2 sgn s
  | .DCT0__2_1 sgn => Sys2Proof.Machine.exec_DCT0_2_1 sgn s
  | .DCT0__0_3 sgn => Sys2Proof.Machine.exec_DCT0_0_3 sgn s
  | .DCT0__4_1 sgn => Sys2Proof.Machine.exec_DCT0_4_1 sgn s
  | .DCT0__3_1 sgn => Sys2Proof.Machine.exec_DCT0_3_1 sgn s
  | .DCT0_ESC run level => Sys2Proof.Machine.exec_DCT0_ESC run level s
  | .DCT0__7_1 sgn => Sys2Proof.Machine.exec_DCT0_7_1 sgn s
  | .DCT0__6_1 sgn => Sys2Proof.Machine.exec_DCT0_6_1 sgn s
  | .DCT0__1_2 sgn => Sys2Proof.Machine.exec_DCT0_1_2 sgn s
  | .DCT0__5_1 sgn => Sys2Proof.Machine.exec_DCT0_5_1 sgn s
  | .DCT0__2_2 sgn => Sys2Proof.Machine.exec_DCT0_2_2 sgn s
  | .DCT0__9_1 sgn => Sys2Proof.Machine.exec_DCT0_9_1 sgn s
  | .DCT0__0_4 sgn => Sys2Proof.Machine.exec_DCT0_0_4 sgn s
  | .DCT0__8_1 sgn => Sys2Proof.Machine.exec_DCT0_8_1 sgn s
  | .DCT0__13_1 sgn => Sys2Proof.Machine.exec_DCT0_13_1 sgn s
  | .DCT0__0_6 sgn => Sys2Proof.Machine.exec_DCT0_0_6 sgn s
  | .DCT0__12_1 sgn => Sys2Proof.Machine.exec_DCT0_12_1 sgn s
  | .DCT0__11_1 sgn => Sys2Proof.Machine.exec_DCT0_11_1 sgn s
  | .DCT0__3_2 sgn => Sys2Proof.Machine.exec_DCT0_3_2 sgn s
  | .DCT0__1_3 sgn => Sys2Proof.Machine.exec_DCT0_1_3 sgn s
  | .DCT0__0_5 sgn => Sys2Proof.Machine.exec_DCT0_0_5 sgn s
  | .DCT0__10_1 sgn => Sys2Proof.Machine.exec_DCT0_10_1 sgn s
  | .DCT0__16_1 sgn => Sys2Proof.Machine.exec_DCT0_16_1 sgn s
  | .DCT0__5_2 sgn => Sys2Proof.Machine.exec_DCT0_5_2 sgn s
  | .DCT0__0_7 sgn => Sys2Proof.Machine.exec_DCT0_0_7 sgn s
  | .DCT0__2_3 sgn => Sys2Proof.Machine.exec_DCT0_2_3 sgn s
  | .DCT0__1_4 sgn => Sys2Proof.Machine.exec_DCT0_1_4 sgn s
  | .DCT0__15_1 sgn => Sys2Proof.Machine.exec_DCT0_15_1 sgn s
  | .DCT0__14_1 sgn => Sys2Proof.Machine.exec_DCT0_14_1 sgn s
  | .DCT0__4_2 sgn => Sys2Proof.Machine.exec_DCT0_4_2 sgn s
  | .DCT0__0_11 sgn => Sys2Proof.Machine.exec_DCT0_0_11 sgn s
  | .DCT0__8_2 sgn => Sys2Proof.Machine.exec_DCT0_8_2 sgn s
  | .DCT0__4_3 sgn => Sys2Proof.Machine.exec_DCT0_4_3 sgn s
  | .DCT0__0_10 sgn => Sys2Proof.Machine.exec_DCT0_0_10 sgn s
  | .DCT0__2_4 sgn => Sys2Proof.Machine.exec_DCT0_2_4 sgn s
  | .DCT0__7_2 sgn => Sys2Proof.Machine.exec_DCT0_7_2 sgn s
  | .DCT0__21_1 sgn => Sys2Proof.Machine.exec_DCT0_21_1 sgn s
  | .DCT0__20_1 sgn => Sys2Proof.Machine.exec_DCT0_20_1 sgn s
  | .DCT0__0_9 sgn => Sys2Proof.Machine.exec_DCT0_0_9 sgn s
  | .DCT0__19_1 sgn => Sys2Proof.Machine.exec_DCT0_19_1 sgn s
  | .DCT0__18_1 sgn => Sys2Proof.Machine.exec_DCT0_18_1 sgn s
  | .DCT0__1_5 sgn => Sys2Proof.Machine.exec_DCT0_1_5 sgn s
  | .DCT0__3_3 sgn => Sys2Proof.Machine.exec_DCT0_3_3 sgn s
  | .DCT0__0_8 sgn => Sys2Proof.Machine.exec_DCT0_0_8 sgn s
  | .DCT0__6_2 sgn => Sys2Proof.Machine.exec_DCT0_6_2 sgn s
  | .DCT0__17_1 sgn => Sys2Proof.Machine.exec_DCT0_17_1 sgn s
  | .DCT0__10_2 sgn => Sys2Proof.Machine.exec_DCT0_10_2 sgn s
  | .DCT0__9_2 sgn => Sys2Proof.Machine.exec_DCT0_9_2 sgn s
  | .DCT0__5_3 sgn => Sys2Proof.Machine.exec_DCT0_5_3 sgn s
  | .DCT0__3_4 sgn => Sys2Proof.Machine.exec_DCT0_3_4 sgn s
  | .DCT0__2_5 sgn => Sys2Proof.Machine.exec_DCT0_2_5 sgn s
  | .DCT0__1_7 sgn => Sys2Proof.Machine.exec_DCT0_1_7 sgn s
  | .DCT0__1_6 sgn => Sys2Proof.Machine.exec_DCT0_1_6 sgn s
  | .DCT0__0_15 sgn => Sys2Proof.Machine.exec_DCT0_0_15 sgn s
  | .DCT0__0_14 sgn => Sys2Proof.Machine.exec_DCT0_0_14 sgn s
  | .DCT0__0_13 sgn => Sys2Proof.Machine.exec_DCT0_0_13 sgn s
  | .DCT0__0_12 sgn => Sys2Proof.Machine.exec_DCT0_0_12 sgn s
  | .DCT0__26_1 sgn => Sys2Proof.Machine.exec_DCT0_26_1 sgn s
  | .DCT0__25_1 sgn => Sys2Proof.Machine.exec_DCT0_25_1 sgn s
  | .DCT0__24_1 sgn => Sys2Proof.Machine.exec_DCT0_24_1 sgn s
  | .DCT0__23_1 sgn => Sys2Proof.Machine.exec_DCT0_23_1 sgn s
  | .DCT0__22_1 sgn => Sys2Proof.Machine.exec_DCT0_22_1 sgn s
  | .DCT0__0_31 sgn => Sys2Proof.Machine.exec_DCT0_0_31 sgn s
  | .DCT0__0_30 sgn => Sys2Proof.Machine.exec_DCT0_0_30 sgn s
  | .DCT0__0_29 sgn => Sys2Proof.Machine.exec_DCT0_0_29 sgn s
  | .DCT0__0_28 sgn => Sys2Proof.Machine.exec_DCT0_0_28 sgn s
  | .DCT0__0_27 sgn => Sys2Proof.Machine.exec_DCT0_0_27 sgn s
  | .DCT0__0_26 sgn => Sys2Proof.Machine.exec_DCT0_0_26 sgn s
  | .DCT0__0_25 sgn => Sys2Proof.Machine.exec_DCT0_0_25 sgn s
  | .DCT0__0_24 sgn => Sys2Proof.Machine.exec_DCT0_0_24 sgn s
  | .DCT0__0_23 sgn => Sys2Proof.Machine.exec_DCT0_0_23 sgn s
  | .DCT0__0_22 sgn => Sys2Proof.Machine.exec_DCT0_0_22 sgn s
  | .DCT0__0_21 sgn => Sys2Proof.Machine.exec_DCT0_0_21 sgn s
  | .DCT0__0_20 sgn => Sys2Proof.Machine.exec_DCT0_0_20 sgn s
  | .DCT0__0_19 sgn => Sys2Proof.Machine.exec_DCT0_0_19 sgn s
  | .DCT0__0_18 sgn => Sys2Proof.Machine.exec_DCT0_0_18 sgn s
  | .DCT0__0_17 sgn => Sys2Proof.Machine.exec_DCT0_0_17 sgn s
  | .DCT0__0_16 sgn => Sys2Proof.Machine.exec_DCT0_0_16 sgn s
  | .DCT0__0_40 sgn => Sys2Proof.Machine.exec_DCT0_0_40 sgn s
  | .DCT0__0_39 sgn => Sys2Proof.Machine.exec_DCT0_0_39 sgn s
  | .DCT0__0_38 sgn => Sys2Proof.Machine.exec_DCT0_0_38 sgn s
  | .DCT0__0_37 sgn => Sys2Proof.Machine.exec_DCT0_0_37 sgn s
  | .DCT0__0_36 sgn => Sys2Proof.Machine.exec_DCT0_0_36 sgn s
  | .DCT0__0_35 sgn => Sys2Proof.Machine.exec_DCT0_0_35 sgn s
  | .DCT0__0_34 sgn => Sys2Proof.Machine.exec_DCT0_0_34 sgn s
  | .DCT0__0_33 sgn => Sys2Proof.Machine.exec_DCT0_0_33 sgn s
  | .DCT0__0_32 sgn => Sys2Proof.Machine.exec_DCT0_0_32 sgn s
  | .DCT0__1_14 sgn => Sys2Proof.Machine.exec_DCT0_1_14 sgn s
  | .DCT0__1_13 sgn => Sys2Proof.Machine.exec_DCT0_1_13 sgn s
  | .DCT0__1_12 sgn => Sys2Proof.Machine.exec_DCT0_1_12 sgn s
  | .DCT0__1_11 sgn => Sys2Proof.Machine.exec_DCT0_1_11 sgn s
  | .DCT0__1_10 sgn => Sys2Proof.Machine.exec_DCT0_1_10 sgn s
  | .DCT0__1_9 sgn => Sys2Proof.Machine.exec_DCT0_1_9 sgn s
  | .DCT0__1_8 sgn => Sys2Proof.Machine.exec_DCT0_1_8 sgn s
  | .DCT0__1_18 sgn => Sys2Proof.Machine.exec_DCT0_1_18 sgn s
  | .DCT0__1_17 sgn => Sys2Proof.Machine.exec_DCT0_1_17 sgn s
  | .DCT0__1_16 sgn => Sys2Proof.Machine.exec_DCT0_1_16 sgn s
  | .DCT0__1_15 sgn => Sys2Proof.Machine.exec_DCT0_1_15 sgn s
  | .DCT0__6_3 sgn => Sys2Proof.Machine.exec_DCT0_6_3 sgn s
  | .DCT0__16_2 sgn => Sys2Proof.Machine.exec_DCT0_16_2 sgn s
  | .DCT0__15_2 sgn => Sys2Proof.Machine.exec_DCT0_15_2 sgn s
  | .DCT0__14_2 sgn => Sys2Proof.Machine.exec_DCT0_14_2 sgn s
  | .DCT0__13_2 sgn => Sys2Proof.Machine.exec_DCT0_13_2 sgn s
  | .DCT0__12_2 sgn => Sys2Proof.Machine.exec_DCT0_12_2 sgn s
  | .DCT0__11_2 sgn => Sys2Proof.Machine.exec_DCT0_11_2 sgn s
  | .DCT0__31_1 sgn => Sys2Proof.Machine.exec_DCT0_31_1 sgn s
  | .DCT0__30_1 sgn => Sys2Proof.Machine.exec_DCT0_30_1 sgn s
  | .DCT0__29_1 sgn => Sys2Proof.Machine.exec_DCT0_29_1 sgn s
  | .DCT0__28_1 sgn => Sys2Proof.Machine.exec_DCT0_28_1 sgn s
  | .DCT0__27_1 sgn => Sys2Proof.Machine.exec_DCT0_27_1 sgn s
  | .DCT0_FIRST__0_1 sgn => Sys2Proof.Machine.exec_DCT0_FIRST_0_1 sgn s
  | .DCT1__0_1 sgn => Sys2Proof.Machine.exec_DCT1_0_1 sgn s
  | .DCT1__1_1 sgn => Sys2Proof.Machine.exec_DCT1_1_1 sgn s
  | .DCT1__0_2 sgn => Sys2Proof.Machine.exec_DCT1_0_2 sgn s
  | .DCT1_EOB => Sys2Proof.Machine.exec_DCT1_EOB s
  | .DCT1__0_3 sgn => Sys2Proof.Machine.exec_DCT1_0_3 sgn s
  | .DCT1__2_1 sgn => Sys2Proof.Machine.exec_DCT1_2_1 sgn s
  | .DCT1__1_2 sgn => Sys2Proof.Machine.exec_DCT1_1_2 sgn s
  | .DCT1__3_1 sgn => Sys2Proof.Machine.exec_DCT1_3_1 sgn s
  | .DCT1__0_4 sgn => Sys2Proof.Machine.exec_DCT1_0_4 sgn s
  | .DCT1__0_5 sgn => Sys2Proof.Machine.exec_DCT1_0_5 sgn s
  | .DCT1_ESC run level => Sys2Proof.Machine.exec_DCT1_ESC run level s
  | .DCT1__0_7 sgn => Sys2Proof.Machine.exec_DCT1_0_7 sgn s
  | .DCT1__0_6 sgn => Sys2Proof.Machine.exec_DCT1_0_6 sgn s
  | .DCT1__4_1 sgn => Sys2Proof.Machine.exec_DCT1_4_1 sgn s
  | .DCT1__5_1 sgn => Sys2Proof.Machine.exec_DCT1_5_1 sgn s
  | .DCT1__7_1 sgn => Sys2Proof.Machine.exec_DCT1_7_1 sgn s
  | .DCT1__8_1 sgn => Sys2Proof.Machine.exec_DCT1_8_1 sgn s
  | .DCT1__6_1 sgn => Sys2Proof.Machine.exec_DCT1_6_1 sgn s
  | .DCT1__2_2 sgn => Sys2Proof.Machine.exec_DCT1_2_2 sgn s
  | .DCT1__9_1 sgn => Sys2Proof.Machine.exec_DCT1_9_1 sgn s
  | .DCT1__1_3 sgn => Sys2Proof.Machine.exec_DCT1_1_3 sgn s
  | .DCT1__10_1 sgn => Sys2Proof.Machine.exec_DCT1_10_1 sgn s
  | .DCT1__0_8 sgn => Sys2Proof.Machine.exec_DCT1_0_8 sgn s
  | .DCT1__0_9 sgn => Sys2Proof.Machine.exec_DCT1_0_9 sgn s
  | .DCT1__1_5 sgn => Sys2Proof.Machine.exec_DCT1_1_5 sgn s
  | .DCT1__11_1 sgn => Sys2Proof.Machine.exec_DCT1_11_1 sgn s
  | .DCT1__0_11 sgn => Sys2Proof.Machine.exec_DCT1_0_11 sgn s
  | .DCT1__0_10 sgn => Sys2Proof.Machine.exec_DCT1_0_10 sgn s
  | .DCT1__13_1 sgn => Sys2Proof.Machine.exec_DCT1_13_1 sgn s
  | .DCT1__12_1 sgn => Sys2Proof.Machine.exec_DCT1_12_1 sgn s
  | .DCT1__3_2 sgn => Sys2Proof.Machine.exec_DCT1_3_2 sgn s
  | .DCT1__1_4 sgn => Sys2Proof.Machine.exec_DCT1_1_4 sgn s
  | .DCT1__0_12 sgn => Sys2Proof.Machine.exec_DCT1_0_12 sgn s
  | .DCT1__0_13 sgn => Sys2Proof.Machine.exec_DCT1_0_13 sgn s
  | .DCT1__2_3 sgn => Sys2Proof.Machine.exec_DCT1_2_3 sgn s
  | .DCT1__4_2 sgn => Sys2Proof.Machine.exec_DCT1_4_2 sgn s
  | .DCT1__0_14 sgn => Sys2Proof.Machine.exec_DCT1_0_14 sgn s
  | .DCT1__0_15 sgn => Sys2Proof.Machine.exec_DCT1_0_15 sgn s
  | .DCT1__5_2 sgn => Sys2Proof.Machine.exec_DCT1_5_2 sgn s
  | .DCT1__14_1 sgn => Sys2Proof.Machine.exec_DCT1_14_1 sgn s
  | .DCT1__15_1 sgn => Sys2Proof.Machine.exec_DCT1_15_1 sgn s
  | .DCT1__2_4 sgn => Sys2Proof.Machine.exec_DCT1_2_4 sgn s
  | .DCT1__16_1 sgn => Sys2Proof.Machine.exec_DCT1_16_1 sgn s
  | .DCT1__8_2 sgn => Sys2Proof.Machine.exec_DCT1_8_2 sgn s
  | .DCT1__4_3 sgn => Sys2Proof.Machine.exec_DCT1_4_3 sgn s
  | .DCT1__7_2 sgn => Sys2Proof.Machine.exec_DCT1_7_2 sgn s
  | .DCT1__21_1 sgn => Sys2Proof.Machine.exec_DCT1_21_1 sgn s
  | .DCT1__20_1 sgn => Sys2Proof.Machine.exec_DCT1_20_1 sgn s
  | .DCT1__19_1 sgn => Sys2Proof.Machine.exec_DCT1_19_1 sgn s
  | .DCT1__18_1 sgn => Sys2Proof.Machine.exec_DCT1_18_1 sgn s
  | .DCT1__3_3 sgn => Sys2Proof.Machine.exec_DCT1_3_3 sgn s
  | .DCT1__6_2 sgn => Sys2Proof.Machine.exec_DCT1_6_2 sgn s
  | .DCT1__17_1 sgn => Sys2Proof.Machine.exec_DCT1_17_1 sgn s
  | .DCT1__10_2 sgn => Sys2Proof.Machine.exec_DCT1_10_2 sgn s
  | .DCT1__9_2 sgn => Sys2Proof.Machine.exec_DCT1_9_2 sgn s
  | .DCT1__5_3 sgn => Sys2Proof.Machine.exec_DCT1_5_3 sgn s
  | .DCT1__3_4 sgn => Sys2Proof.Machine.exec_DCT1_3_4 sgn s
  | .DCT1__2_5 sgn => Sys2Proof.Machine.exec_DCT1_2_5 sgn s
  | .DCT1__1_7 sgn => Sys2Proof.Machine.exec_DCT1_1_7 sgn s
  | .DCT1__1_6 sgn => Sys2Proof.Machine.exec_DCT1_1_6 sgn s
  | .DCT1__26_1 sgn => Sys2Proof.Machine.exec_DCT1_26_1 sgn s
  | .DCT1__25_1 sgn => Sys2Proof.Machine.exec_DCT1_25_1 sgn s
  | .DCT1__24_1 sgn => Sys2Proof.Machine.exec_DCT1_24_1 sgn s
  | .DCT1__23_1 sgn => Sys2Proof.Machine.exec_DCT1_23_1 sgn s
  | .DCT1__22_1 sgn => Sys2Proof.Machine.exec_DCT1_22_1 sgn s
  | .DCT1__0_31 sgn => Sys2Proof.Machine.exec_DCT1_0_31 sgn s
  | .DCT1__0_30 sgn => Sys2Proof.Machine.exec_DCT1_0_30 sgn s
  | .DCT1__0_29 sgn => Sys2Proof.Machine.exec_DCT1_0_29 sgn s
  | .DCT1__0_28 sgn => Sys2Proof.Machine.exec_DCT1_0_28 sgn s
  | .DCT1__0_27 sgn => Sys2Proof.Machine.exec_DCT1_0_27 sgn s
  | .DCT1__0_26 sgn => Sys2Proof.Machine.exec_DCT1_0_26 sgn s
  | .DCT1__0_25 sgn => Sys2Proof.Machine.exec_DCT1_0_25 sgn s
  | .DCT1__0_24 sgn => Sys2Proof.Machine.exec_DCT1_0_24 sgn s
  | .DCT1__0_23 sgn => Sys2Proof.Machine.exec_DCT1_0_23 sgn s
  | .DCT1__0_22 sgn => Sys2Proof.Machine.exec_DCT1_0_22 sgn s
  | .DCT1__0_21 sgn => Sys2Proof.Machine.exec_DCT1_0_21 sgn s
  | .DCT1__0_20 sgn => Sys2Proof.Machine.exec_DCT1_0_20 sgn s
  | .DCT1__0_19 sgn => Sys2Proof.Machine.exec_DCT1_0_19 sgn s
  | .DCT1__0_18 sgn => Sys2Proof.Machine.exec_DCT1_0_18 sgn s
  | .DCT1__0_17 sgn => Sys2Proof.Machine.exec_DCT1_0_17 sgn s
  | .DCT1__0_16 sgn => Sys2Proof.Machine.exec_DCT1_0_16 sgn s
  | .DCT1__0_40 sgn => Sys2Proof.Machine.exec_DCT1_0_40 sgn s
  | .DCT1__0_39 sgn => Sys2Proof.Machine.exec_DCT1_0_39 sgn s
  | .DCT1__0_38 sgn => Sys2Proof.Machine.exec_DCT1_0_38 sgn s
  | .DCT1__0_37 sgn => Sys2Proof.Machine.exec_DCT1_0_37 sgn s
  | .DCT1__0_36 sgn => Sys2Proof.Machine.exec_DCT1_0_36 sgn s
  | .DCT1__0_35 sgn => Sys2Proof.Machine.exec_DCT1_0_35 sgn s
  | .DCT1__0_34 sgn => Sys2Proof.Machine.exec_DCT1_0_34 sgn s
  | .DCT1__0_33 sgn => Sys2Proof.Machine.exec_DCT1_0_33 sgn s
  | .DCT1__0_32 sgn => Sys2Proof.Machine.exec_DCT1_0_32 sgn s
  | .DCT1__1_14 sgn => Sys2Proof.Machine.exec_DCT1_1_14 sgn s
  | .DCT1__1_13 sgn => Sys2Proof.Machine.exec_DCT1_1_13 sgn s
  | .DCT1__1_12 sgn => Sys2Proof.Machine.exec_DCT1_1_12 sgn s
  | .DCT1__1_11 sgn => Sys2Proof.Machine.exec_DCT1_1_11 sgn s
  | .DCT1__1_10 sgn => Sys2Proof.Machine.exec_DCT1_1_10 sgn s
  | .DCT1__1_9 sgn => Sys2Proof.Machine.exec_DCT1_1_9 sgn s
  | .DCT1__1_8 sgn => Sys2Proof.Machine.exec_DCT1_1_8 sgn s
  | .DCT1__1_18 sgn => Sys2Proof.Machine.exec_DCT1_1_18 sgn s
  | .DCT1__1_17 sgn => Sys2Proof.Machine.exec_DCT1_1_17 sgn s
  | .DCT1__1_16 sgn => Sys2Proof.Machine.exec_DCT1_1_16 sgn s
  | .DCT1__1_15 sgn => Sys2Proof.Machine.exec_DCT1_1_15 sgn s
  | .DCT1__6_3 sgn => Sys2Proof.Machine.exec_DCT1_6_3 sgn s
  | .DCT1__16_2 sgn => Sys2Proof.Machine.exec_DCT1_16_2 sgn s
  | .DCT1__15_2 sgn => Sys2Proof.Machine.exec_DCT1_15_2 sgn s
  | .DCT1__14_2 sgn => Sys2Proof.Machine.exec_DCT1_14_2 sgn s
  | .DCT1__13_2 sgn => Sys2Proof.Machine.exec_DCT1_13_2 sgn s
  | .DCT1__12_2 sgn => Sys2Proof.Machine.exec_DCT1_12_2 sgn s
  | .DCT1__11_2 sgn => Sys2Proof.Machine.exec_DCT1_11_2 sgn s
  | .DCT1__31_1 sgn => Sys2Proof.Machine.exec_DCT1_31_1 sgn s
  | .DCT1__30_1 sgn => Sys2Proof.Machine.exec_DCT1_30_1 sgn s
  | .DCT1__29_1 sgn => Sys2Proof.Machine.exec_DCT1_29_1 sgn s
  | .DCT1__28_1 sgn => Sys2Proof.Machine.exec_DCT1_28_1 sgn s
  | .DCT1__27_1 sgn => Sys2Proof.Machine.exec_DCT1_27_1 sgn s

end Sys2Proof.Machine
end

