-- ==== Sys2Proof/Machine/Commands.lean ====
section
/-! DEFINITION. The host commands (R590): create (R710), the start of decode (R596), lookup (R620), slot reads (R621). -/

namespace Sys2Proof.Machine

/-- `create()` (R710): every register at its reset value. The parameters, the host's queues and the draws' command number
are not the instance's. -/
def State.create (s : State) : State :=
  ({ State.resetWith s.cfg with
      cmd := { CommandState.reset with cmdNo := s.cmd.cmdNo }, inbox := s.inbox, outbox := s.outbox }).reply .created

/-- `decode(buf, bufLen, pts)` to its first start-code search (R596, R592). After an allocation failure it returns at
once (R675). The slice and macroblock registers, which hold no value here (R30, R43, R44, R48, R49, R596), keep their last ones
(DESIGN CHOICE, log entry 24). -/
def State.startDecode (s : State) (buf : List Byte) (pts : BitVec 64) : State :=
  let s1 := s.onCmd fun r => { r with cmdNo := r.cmdNo + 1, pkt := buf, bp := 0, pts := pts, errLog := [] }
  if s.inst.phase = .failed then s1.finishDecode false 0
  else (if s.inst.phase = .pictureComplete then s1.setPhase .awaitPictureStart else s1).setCtx (.startCode .top)

/-- `abs(a - b)` of two timestamps (R620). -/
def ptsDist (a b : BitVec 64) : Nat := (a.toNat - b.toNat) + (b.toNat - a.toNat)

/-- The scan of `lookup(q)` (R620) over the slots from number `k`: the best slot so far, with its distance. -/
def lookupFrom (q : BitVec 64) : List Slot → Nat → Option (Nat × Nat) → Option Nat
  | [], _, best => best.map (·.1)
  | x :: l, k, best =>
    if x.pts = 0 then lookupFrom q l (k + 1) best
    else
      match best with
      | none => lookupFrom q l (k + 1) (some (k, ptsDist x.pts q))
      | some (j, d) => lookupFrom q l (k + 1) (if ptsDist x.pts q < d then some (k, ptsDist x.pts q) else some (j, d))

/-- `lookup(q)` (R620): ties go to the lowest slot (D8). -/
def State.lookup (s : State) (q : BitVec 64) : Option Nat := lookupFrom q s.inst.ring 0 none

/-- One host command, run by the idle core (R590, R591). -/
def State.runCommand (s : State) : Command → Flow
  | .create => .go s.create
  | .decode buf pts => .go (s.startDecode buf pts)
  | .lookup q => .go (s.reply (.slot (s.lookup q)))
  | .slotRead k =>
    match s.inst.ring[k]? with
    | some x => .go (s.reply (.slotFields x))
    | none => .refuse .illegalHostRead
  | .slotSample k c x y =>
    match s.inst.ring[k]? with
    | some slot =>
      if x < s.planeWidth c ∧ y < s.planeHeight c then .go (s.reply (.sample (s.sample slot.bufIdx c x y)))
      else .refuse .illegalHostRead
    | none => .refuse .illegalHostRead

/-- The step of the idle core: it takes the oldest command, or waits (R687). -/
def State.hostStep (s : State) : Flow :=
  match s.inbox with
  | [] => .go s
  | c :: rest => ({ s with inbox := rest }).runCommand c

end Sys2Proof.Machine
end

