-- ==== Sys2Proof/Machine/Fetch.lean ====
section
/-! DEFINITION. Fetching: the table or layout the due element is read from (R246), the position it is read at, and what
happens where there is none: an invalid code (R231), the end of the buffer (R676), an idle core. -/

namespace Sys2Proof.Machine

/-- The DCT table of a block (R246, R241, R370, R374). -/
def State.dctTable (s : State) (first : Bool) : DecCtx :=
  if s.mb.mbType.i then
    if s.pic.intra_vlc_format && decide (s.cfg.intraVlc = .iso) then .dct1 else .dct0
  else if first then .dct0First
  else .dct0

/-- The macroblock type table of the picture (R246, R430). -/
def State.typeTable (s : State) : DecCtx :=
  if s.pic.picture_coding_type = 1 then .mbTypeI
  else if s.pic.picture_coding_type = 2 then .mbTypeP
  else .mbTypeB

/-- The decoding context of the due element; `none` for an idle core. -/
def State.decCtx (s : State) : Option DecCtx :=
  match s.ctx with
  | .idle => none
  | .startCode _ => some .startCode
  | .extId _ => some .extId
  | .seqExt _ => some .seqExt
  | .quantMatrix _ => some .quantMatrix
  | .picCodingExt _ => some .picCodingExt
  | .seqHeader => some .seqHeader
  | .gop => some .gop
  | .picHeader => some .picHeader
  | .sliceHeader => some .sliceHeader
  | .mba _ => some .mba
  | .mbType => some s.typeTable
  | .frameMotionType => some .frameMotionType
  | .dctType => some .dctType
  | .mbQuant => some .mbQuant
  | .fieldSelect _ _ => some .fieldSelect
  | .motionCode _ _ _ => some .mv
  | .marker => some .marker
  | .cbp => some .cbp
  | .dcSize i => some (if i.val < 4 then .dcl else .dcc)
  | .dcDiff _ n => some (.dcDiff n)
  | .coef _ first => some (s.dctTable first)

/-- Where the due element's bits begin: at `bp`, but for extension fields, whose layout counts from the identifier
already read (R153, R310). -/
def State.fetchPos (s : State) : Nat :=
  match s.ctx with
  | .seqExt _ => s.cmd.bp - 4
  | .quantMatrix _ => s.cmd.bp - 4
  | .picCodingExt _ => s.cmd.bp - 4
  | _ => s.cmd.bp

/-- The bits the due element is decoded from. -/
def State.fetchBits (s : State) (k : Nat) : Bool := s.bit false (s.fetchPos + k)

/-- The due element in context `c`. -/
def State.fetchInstr (s : State) (c : DecCtx) : Option Instr := decode c s.fetchBits s.chainFuel

/-- What a step does. -/
inductive Fetched where
  | run (i : Instr) (s : State)
  | done (x : Flow)
  deriving DecidableEq, Repr

/-- Decode the element at the cursor; where no code word begins, Corrupt(InvalidVlc) with `bp` at it (R230, R665). -/
def State.fetchElement (s : State) (c : DecCtx) : Fetched :=
  match s.fetchInstr c with
  | some i => .run i s
  | none => .done (.corrupt .invalidVlc s)

/-- The next element: a start code is searched for first (R207), every other element stands at the cursor. -/
def State.fetch (s : State) : Fetched :=
  match s.decCtx with
  | none => .done s.hostStep
  | some c =>
    match s.ctx with
    | .startCode m =>
      let (found, s1) := s.getStartCode
      if found then s1.fetchElement c else .done (s1.endOfBuffer m)
    | _ => s.fetchElement c

-- ---------------------------------------------------------------- a table word at the fetch position

/-- The place in the syntax at which an element of a decoding context is due, the registers that select its table, and
those without which it is not due (log entry 10). -/
def State.placeFor (s : State) (c : DecCtx) : State :=
  let intra (s : State) := s.onMb fun m => { m with mbType := ⟨false, false, false, false, true⟩, cbp := 63 }
  let coded (t : BitVec 3) (s : State) := s.onPic fun r => { r with picture_coding_type := t }
  match c with
  | .startCode => s.setCtx (.startCode .top)
  | .extId => s.setCtx (.extId .top)
  | .seqHeader => s.setCtx .seqHeader
  | .seqExt => (s.setBp 4).setCtx (.seqExt .top)
  | .quantMatrix => (s.setBp 4).setCtx (.quantMatrix .top)
  | .picCodingExt => (s.setBp 4).setCtx (.picCodingExt .top)
  | .gop => s.setCtx .gop
  | .picHeader => s.setCtx .picHeader
  | .sliceHeader => s.setCtx .sliceHeader
  | .frameMotionType =>
    ((s.onMb fun m => { m with mbType := ⟨false, true, false, false, false⟩ }).onPic fun r =>
      { r with frame_pred_frame_dct := false }).setCtx .frameMotionType
  | .dctType => (intra s).setCtx .dctType
  | .mbQuant => (intra s).setCtx .mbQuant
  | .fieldSelect => s.setCtx (.fieldSelect false false)
  | .marker => (intra s).setCtx .marker
  | .dcDiff n => (intra s).setCtx (.dcDiff 0 n)
  | .mba => s.setCtx (.mba true)
  | .mbTypeI => (coded 1 s).setCtx .mbType
  | .mbTypeP => (coded 2 s).setCtx .mbType
  | .mbTypeB => (coded 3 s).setCtx .mbType
  | .cbp => s.setCtx .cbp
  | .mv => (s.onPic fun r => { r with f_code := Pair.const (Pair.const 1) }).setCtx (.motionCode false false false)
  | .dcl => (intra s).setCtx (.dcSize 0)
  | .dcc => (intra s).setCtx (.dcSize 4)
  | .dct0 => (s.onMb fun m => { m with mbType := .empty, cbp := 63 }).setCtx (.coef 0 false)
  | .dct0First =>
    (s.onMb fun m => { m with mbType := .empty, cbp := 63, coefIdx := -1 }).setCtx (.coef 0 true)
  | .dct1 =>
    ({ (intra s).onPic fun r => { r with intra_vlc_format := true } with
        cfg := { s.cfg with intraVlc := .iso } }).setCtx (.coef 0 false)

/-- The state with a table word as its packet buffer, the cursor at it and its element due; unchanged where the word is
no instruction. -/
def State.placeWord (s : State) (nbits w : Nat) : State :=
  match tableCtx nbits w with
  | some c => (s.onCmd fun r => { r with pkt := tableBytes nbits w ++ tablePad, bp := 0 }).placeFor c
  | none => s

end Sys2Proof.Machine
end

