-- ==== Sys2Proof/Safety.lean ====
section
/-! DEFINITION. What the statements speak of: the legal states of the core (the invariant its steps keep), the agreement of
a bit string with a code word, and the rows of the opcode table with the values spec/41_vlc_tables.md gives them. -/

namespace Sys2Proof

/-- The bits `rd` begin with `l`. -/
def Agrees (rd : Nat → Bool) (l : List Bool) : Prop := ∀ k, k < l.length → rd k = l.getD k false

/-- The VLC tables (R230). -/
def vlcTables : List (List VlcRow) :=
  [mbaTable, mbTypeITable, mbTypePTable, mbTypeBTable, cbpTable, mvTable, dclTable, dccTable, dct0Table,
   dct0FirstTable, dct1Table]

/-- For each table, the prefixes that begin no code word of it (the list of R231). -/
def invalidPrefixes : List (List VlcRow × List (List Bool)) :=
  [ (mbaTable,
      [natBits 8 0b00000000, natBits 11 0b00000001001, natBits 11 0b00000001010, natBits 11 0b00000001011,
       natBits 11 0b00000001100, natBits 11 0b00000001101, natBits 11 0b00000001110, natBits 11 0b00000001111,
       natBits 8 0b00000010]),
    (mbTypeITable, [natBits 2 0b00]),
    (mbTypePTable, [natBits 6 0b000000]),
    (mbTypeBTable, [natBits 6 0b000000]),
    (cbpTable, [natBits 9 0b000000000]),
    (mvTable, [natBits 8 0b00000010, natBits 7 0b0000000]),
    (dclTable, []),
    (dccTable, []),
    (dct0Table, [natBits 12 0b000000000000]),
    (dct0FirstTable, [natBits 12 0b000000000000]),
    (dct1Table,
      [natBits 12 0b000000000000, natBits 12 0b000000010000, natBits 12 0b000000010011, natBits 12 0b000000010100,
       natBits 12 0b000000011000, natBits 12 0b000000011011, natBits 12 0b000000011101, natBits 13 0b0000000010111,
       natBits 13 0b0000000011000, natBits 13 0b0000000011001, natBits 13 0b0000000011010]) ]

/-- The contexts in which a code word of a VLC table is read. -/
def DecCtx.isTable : DecCtx → Bool
  | .mba | .mbTypeI | .mbTypeP | .mbTypeB | .cbp | .mv | .dcl | .dcc | .dct0 | .dct0First | .dct1 => true
  | _ => false

namespace Machine

-- ---------------------------------------------------------------- legal states

/-- The motion registers agree with one another (R431, R451, R452). -/
def MacroblockRegs.modesAgree (m : MacroblockRegs) : Prop :=
  (m.motionType = .field ∧ m.mvCount = 2 ∧ m.mvFormat = .field ∧ m.mvScale = true) ∨
  (m.motionType ≠ .field ∧ m.mvCount = 1 ∧ m.mvFormat = .frame ∧ m.mvScale = false)

/-- What every register keeps at every place of the syntax. -/
structure State.Legal (s : State) : Prop where
  /-- The samples are in canonical form (R105). -/
  memory : s.inst.fb.wf
  /-- `auxIdx = 2`, `{fwdIdx, bwdIdx} = {0, 1}` and `curIdx ≠ fwdIdx` (R53, R602). -/
  roles : s.inst.auxIdx = 2 ∧
    ((s.inst.fwdIdx = 0 ∧ s.inst.bwdIdx = 1) ∨ (s.inst.fwdIdx = 1 ∧ s.inst.bwdIdx = 0)) ∧
    s.inst.curIdx ≠ s.inst.fwdIdx
  /-- The ring has `P_RING_N` slots and `wr` names one (R54). -/
  ring : s.inst.ring.length = s.cfg.ringN ∧ s.inst.wr < s.cfg.ringN
  /-- The matrices have 64 elements (R39). -/
  matrices : s.seq.intraQ.length = 64 ∧ s.seq.nonIntraQ.length = 64
  /-- The blocks are six of 64 (R51). -/
  blocks : s.mb.blk.length = 6 ∧ ∀ b ∈ s.mb.blk, b.length = 64
  /-- The frame buffers have the current geometry once a sequence header has been read (R599). -/
  geometry : s.inst.phase = .awaitPictureStart ∨ s.inst.phase = .decodingSlices ∨ s.inst.phase = .pictureComplete →
    s.inst.allocated = some (s.width, s.height) ∧ 0 < s.mbCount
  /-- In a picture: a frame picture of a supported type, whose buffer is the one R601 gives it (R322, R331). -/
  picture : s.inst.phase = .decodingSlices →
    (s.pic.picture_coding_type = 1 ∨ s.pic.picture_coding_type = 2 ∨ s.pic.picture_coding_type = 3) ∧
    s.pic.picture_structure = 3 ∧
    s.inst.curIdx = if s.pic.picture_coding_type = 3 then s.inst.auxIdx else s.inst.bwdIdx
  /-- The motion registers agree (R431). -/
  modes : s.mb.modesAgree
  /-- The slice row is one a slice start code can name (R44, R343). -/
  row : s.slc.sliceRow ≤ 174

/-- The quantiser registers within a slice (R43, R341). -/
def State.quantOk (s : State) : Prop :=
  s.slc.quantiser_scale_code ≠ 0 ∧
  s.slc.quantiserScale = qmap s.pic.q_scale_type s.slc.quantiser_scale_code.toNat ∧
  1 ≤ s.slc.quantiserScale ∧ s.slc.quantiserScale ≤ 112

/-- A backward direction only in a B picture (R233 to R235, R531). -/
def State.typeOk (s : State) (f : MbFlags) : Prop := f.b = true → s.pic.picture_coding_type = 3

/-- In a slice's data, after its header. -/
def State.inSlice (s : State) : Prop :=
  s.inst.phase = .decodingSlices ∧ s.quantOk ∧ s.typeOk s.mb.prevMbType

/-- In a macroblock on the grid, after its type (R44). -/
def State.inMacroblock (s : State) : Prop :=
  s.inSlice ∧ s.slc.mba < s.mbCount ∧ s.typeOk s.mb.mbType

/-- What holds at the place of the syntax the core stands at. -/
def State.Placed (s : State) : Prop :=
  match s.ctx with
  | .idle => s.inst.phase ≠ .decodingSlices
  | .startCode .top | .seqHeader => s.inst.phase = .awaitSequenceHeader ∨ s.inst.phase = .awaitPictureStart
  | .startCode .picExt | .startCode .skipSlices => s.inst.phase = .awaitPictureStart
  | .startCode .slices | .sliceHeader => s.inst.phase = .decodingSlices
  | .gop | .picHeader => s.inst.phase = .awaitPictureStart
  | .extId m => (m = .top ∨ m = .picExt) ∧ s.inst.phase = .awaitPictureStart
  | .seqExt m | .quantMatrix m | .picCodingExt m =>
    (m = .top ∨ m = .picExt) ∧ s.inst.phase = .awaitPictureStart ∧ 4 ≤ s.cmd.bp
  | .mba first => s.inSlice ∧ (first = false → s.slc.mba + 1 < s.mbCount)
  | .mbType => s.inSlice ∧ s.slc.mba < s.mbCount
  | .frameMotionType | .dctType | .mbQuant | .fieldSelect _ _ | .motionCode _ _ _ | .marker | .cbp | .dcSize _ =>
    s.inMacroblock
  | .dcDiff _ n => s.inMacroblock ∧ 1 ≤ n ∧ n ≤ 11
  | .coef _ first => s.inMacroblock ∧ s.mb.coefIdx ≤ 63 ∧ (if first then s.mb.coefIdx = -1 else 0 ≤ s.mb.coefIdx)

/-- The invariant of the core. -/
def State.Inv (s : State) : Prop := s.Legal ∧ s.Placed

-- ---------------------------------------------------------------- places in the buffer and in a picture

/-- `p` is where the next start code's prefix begins: the first byte-aligned place at or after `bp` (R206). -/
def State.NextPrefix (s : State) (p : Nat) : Prop :=
  p % 8 = 0 ∧ s.cmd.bp ≤ p ∧ p + 24 ≤ s.bufBits ∧ fld (byteBit s.cmd.pkt) p 24 = 1 ∧
  ∀ q, q % 8 = 0 → s.cmd.bp ≤ q → q < p → fld (byteBit s.cmd.pkt) q 24 ≠ 1

/-- No start code's prefix follows `bp` in the buffer (R206). -/
def State.NoPrefix (s : State) : Prop :=
  ∀ q, q % 8 = 0 → s.cmd.bp ≤ q → q + 24 ≤ s.bufBits → fld (byteBit s.cmd.pkt) q 24 ≠ 1

/-- The elements read inside `slice()` (R662). -/
def Ctx.inSlice : Ctx → Bool
  | .sliceHeader | .mba _ | .mbType | .frameMotionType | .dctType | .mbQuant | .fieldSelect _ _ | .motionCode _ _ _
  | .marker | .cbp | .dcSize _ | .dcDiff _ _ | .coef _ _ => true
  | _ => false

/-- The plane position of a row and column of the macroblock at address `a` (R546). -/
def State.mbPos (s : State) (a : Nat) (c : Plane) (row col : Nat) : Nat × Nat :=
  (mbPlaneWidth c * (a % s.mbWidth) + col, mbPlaneWidth c * (a / s.mbWidth) + row)

/-- The sample at a row and column of the macroblock at address `a` in buffer `b` (R546). -/
def State.mbSample (s : State) (b : Fin 3) (a : Nat) (c : Plane) (row col : Nat) : Option Byte :=
  s.sample b c (s.mbPos a c row col).1 (s.mbPos a c row col).2

/-- The address of that sample. -/
def State.mbAddr (s : State) (b : Fin 3) (a : Nat) (c : Plane) (row col : Nat) : Nat :=
  s.addr b c (s.mbPos a c row col).1 (s.mbPos a c row col).2

/-- An address outside the macroblock at address `a` of buffer `b`. -/
def State.OutsideMb (s : State) (b : Fin 3) (a : Nat) (n : Nat) : Prop :=
  ∀ c row col, row < mbPlaneWidth c → col < mbPlaneWidth c → n ≠ s.mbAddr b a c row col

/-- Every sample of the macroblock at address `a` of buffer `b` has been written. -/
def State.MbWritten (s : State) (b : Fin 3) (a : Nat) : Prop :=
  ∀ c row col, row < mbPlaneWidth c → col < mbPlaneWidth c → (s.mbSample b a c row col).isSome

-- ---------------------------------------------------------------- stops

/-- The state a fault of the spec leaves (R673). -/
def leftByFault : Fault → Option State
  | .unwritten t | .unwrittenSample t | .refOutOfRange t => some t
  | .outOfContext => none

/-- The state a refusal of the spec leaves (R673). -/
def leftByRefusal : Refusal → Option State
  | .geometry t | .chromaFormat t | .sizeExtension t | .fieldPicture t | .dualPrime t => some t
  | _ => none

/-- The run ends with `o`, which leaves the state `t`. -/
def StopsWith (o : Host.Outcome State Fault Refusal) (t : State) : Prop :=
  (∃ f, o = .fault f ∧ leftByFault f = some t) ∨ ∃ r, o = .refused r ∧ leftByRefusal r = some t

-- ---------------------------------------------------------------- the start of a picture

/-- A supported coding type (R322). -/
def State.Supported (s : State) : Prop :=
  s.pic.picture_coding_type = 1 ∨ s.pic.picture_coding_type = 2 ∨ s.pic.picture_coding_type = 3

/-- The picture registers when the extensions have ended: with no picture coding extension the f_codes are those of the
picture header (R336). -/
def State.picDefaults (s : State) : PictureRegs :=
  if s.pic.pceSeen then s.pic
  else
    let f : BitVec 4 := s.pic.forward_f_code.setWidth 4
    let b : BitVec 4 := s.pic.backward_f_code.setWidth 4
    { s.pic with f_code := ⟨⟨f, f⟩, ⟨b, b⟩⟩ }

/-- The picture's decoding begins (R597, R336, R601): an anchor picture swaps the reference roles and is written to the new
backward buffer, a B picture to the auxiliary one. -/
def State.pictureBegun (s : State) : State :=
  { s with
    ctx := .startCode .slices, pic := s.picDefaults,
    inst :=
      if s.pic.picture_coding_type = 3 then { s.inst with phase := .decodingSlices, curIdx := s.inst.auxIdx }
      else
        { s.inst with
          phase := .decodingSlices, fwdIdx := s.inst.bwdIdx, bwdIdx := s.inst.fwdIdx, curIdx := s.inst.fwdIdx } }

-- ---------------------------------------------------------------- the end of a macroblock

/-- The loop of R610 after the macroblock at `mba`: `.startCode .slices` at the end of the grid (R616) or before 23 zero
bits (R613), else the next address increment. -/
def State.ctxAfterMb (s : State) : Ctx :=
  if s.slc.mba + 1 = s.mbCount ∨ s.peek 23 = 0 then .startCode .slices else .mba false

/-- The registers a macroblock is reconstructed with (R454): after the blocks the predictors are reset and the type is kept
(R450, R451). -/
def State.afterResets (s : State) : State :=
  let dc : Int := 2 ^ (7 + s.pic.intra_dc_precision.toNat)
  let kept : MacroblockRegs := { s.mb with prevMbType := s.mb.mbType }
  if s.mb.mbType.i then
    { s with
      mb := kept,
      slc := { s.slc with
        pmv :=
          if s.pic.concealment_motion_vectors then s.slc.pmv
          else ⟨⟨⟨0, 0⟩, ⟨0, 0⟩⟩, ⟨⟨0, 0⟩, ⟨0, 0⟩⟩⟩ } }
  else if s.pic.picture_coding_type = 2 ∧ s.mb.mbType.f = false then
    { s with
      mb := { kept with motionType := .frame, mvCount := 1, mvFormat := .frame, mvScale := false },
      slc := { s.slc with
        dcPred := ⟨dc, dc, dc⟩, pmv := ⟨⟨⟨0, 0⟩, s.slc.pmv.p0.p1⟩, ⟨⟨0, 0⟩, s.slc.pmv.p1.p1⟩⟩ } }
  else { s with mb := kept, slc := { s.slc with dcPred := ⟨dc, dc, dc⟩ } }

/-- `o` is the end of the macroblock whose pattern and coefficients `s` holds (R454, R545, R546, R610). Where its prediction is
formed, every sample of the macroblock is the clipped sum of the prediction and the coded blocks' inverse transforms, no
other sample changes, and what R610 reads next is due; where it is not, the fault leaves the registers after the
resets and no sample written (R540, R673). `mbaInc` is 0 where an increment is due (log entry 12), and the
other registers keep their values (log entry 24). -/
def State.MacroblockEnds (s : State) (o : Host.Outcome State Fault Refusal) : Prop :=
  let a := s.afterResets
  let res (i : Fin 6) : List Int :=
    if s.mb.cbp.getLsbD (5 - i.val) then idct s.cfg.idct (s.mb.blk.getD i.val []) else s.mb.blk.getD i.val []
  s.inst.allocated = some (s.width, s.height) → s.slc.mba < s.mbCount →
    (a.prediction = .error .unwrittenSample → o = .fault (.unwrittenSample a)) ∧
    (a.prediction = .error .refOutOfRange → o = .fault (.refOutOfRange a)) ∧
    (∀ p, a.prediction = .ok p → ∃ m : Memory,
      o = .next { a with
        ctx := s.ctxAfterMb, inst := { s.inst with fb := m },
        slc := { a.slc with mbaInc := if s.ctxAfterMb = .mba false then 0 else s.slc.mbaInc },
        mb := { a.mb with blk := [res 0, res 1, res 2, res 3, res 4, res 5] } } ∧
      (∀ (i : Fin 6) (x y : Nat), x < 8 → y < 8 →
        let c : Plane := if i.val < 4 then .y else if i.val = 4 then .cb else .cr
        let row := if i.val < 4 then (if s.mb.dctType then i.val / 2 + 2 * y else 8 * (i.val / 2) + y) else y
        let col := if i.val < 4 then 8 * (i.val % 2) + x else x
        m.read (s.mbAddr s.inst.curIdx s.slc.mba c row col) =
          some (BitVec.ofNat 8 (max 0 (min 255 ((predAt p c row col : Int) + (res i).getD (8 * y + x) 0))).toNat)) ∧
      (∀ n, s.OutsideMb s.inst.curIdx s.slc.mba n → m.read n = s.inst.fb.read n))

-- ---------------------------------------------------------------- what is due next

/-- An f_code a motion vector may use (R332). -/
def State.FCodeOk (s : State) (d t : Bool) : Prop := 1 ≤ s.fCode d t ∧ s.fCode d t ≤ 9

/-- The vector fields of direction `d` are due first: a motion code, or for two vectors a field select (R436); a motion
code whose f_code is out of range raises Corrupt (R437). -/
def State.DirectionDue (s : State) (d : Bool) (o : Host.Outcome State Fault Refusal) : Prop :=
  (s.mb.mvCount ≠ 1 → o = .next { s with ctx := .fieldSelect false d }) ∧
  (s.mb.mvCount = 1 → s.FCodeOk d false → o = .next { s with ctx := .motionCode false d false }) ∧
  (s.mb.mvCount = 1 → ¬ s.FCodeOk d false → o = .next (takeCorrupt .invalidFCode s))

/-- What is due after the vectors and the marker (R454, R445): the pattern; with none coded, the first block of an intra
macroblock, whose pattern is 63, and the end of any other, whose pattern is 0. -/
def State.PatternDue (s : State) (o : Host.Outcome State Fault Refusal) : Prop :=
  (s.mb.mbType.p = true → o = .next { s with ctx := .cbp }) ∧
  (s.mb.mbType.p = false → s.mb.mbType.i = true →
    o = .next { s with ctx := .dcSize 0, mb := { s.mb with cbp := 63 } }) ∧
  (s.mb.mbType.p = false → s.mb.mbType.i = false →
    State.MacroblockEnds { s with mb := { s.mb with cbp := 0 } } o)

/-- What is due after the forward vectors (R454). -/
def State.BackwardDue (s : State) (o : Host.Outcome State Fault Refusal) : Prop :=
  (s.mb.mbType.b = true → s.DirectionDue true o) ∧
  (s.mb.mbType.b = false → s.concealed = true → o = .next { s with ctx := .marker }) ∧
  (s.mb.mbType.b = false → s.concealed = false → s.PatternDue o)

/-- What is due after the quantiser field (R454). -/
def State.VectorsDue (s : State) (o : Host.Outcome State Fault Refusal) : Prop :=
  (s.mb.mbType.f = true ∨ s.concealed = true → s.DirectionDue false o) ∧
  (s.mb.mbType.f = false → s.concealed = false → s.BackwardDue o)

/-- What is due after the macroblock modes (R454): the quantiser field where `Q` is set. -/
def State.QuantDue (s : State) (o : Host.Outcome State Fault Refusal) : Prop :=
  (s.mb.mbType.q = true → o = .next { s with ctx := .mbQuant }) ∧ (s.mb.mbType.q = false → s.VectorsDue o)

/-- What is due after the motion type (R431): `dct_type` where it is coded. -/
def State.DctTypeDue (s : State) (o : Host.Outcome State Fault Refusal) : Prop :=
  ((s.mb.mbType.i = true ∨ s.mb.mbType.p = true) ∧ s.pic.frame_pred_frame_dct = false →
    o = .next { s with ctx := .dctType }) ∧
  (¬ ((s.mb.mbType.i = true ∨ s.mb.mbType.p = true) ∧ s.pic.frame_pred_frame_dct = false) → s.QuantDue o)

-- ---------------------------------------------------------------- the rows of the tables, with their values

/-- The start codes with one code byte, and the byte (R152). -/
def startCodeRows : List (Instr × Byte) :=
  [ (.picture_start_code, 0x00),
    (.reserved_B0, 0xB0),
    (.reserved_B1, 0xB1),
    (.reserved_B6, 0xB6),
    (.user_data_start_code, 0xB2),
    (.sequence_header_code, 0xB3),
    (.sequence_error_code, 0xB4),
    (.extension_start_code, 0xB5),
    (.sequence_end_code, 0xB7),
    (.group_start_code, 0xB8) ]

/-- `i` is a start code other than a slice's, and `c` its code byte (R152). -/
def OtherStartCode (i : Instr) (c : Byte) : Prop :=
  (i, c) ∈ startCodeRows ∨ (i = .system_start_code c ∧ 0xB9 ≤ c.toNat)

/-- The reserved start codes (R315). -/
def reservedCodeRows : List (Instr × Byte) :=
  [(.reserved_B0, 0xB0), (.reserved_B1, 0xB1), (.sequence_error_code, 0xB4), (.reserved_B6, 0xB6)]

/-- The extension identifiers that are always skipped, and their numbers (R163, R311). -/
def skippedIdRows : List (Instr × Nat) :=
  [ (.extension_id_0_reserved, 0),
    (.extension_id_2_sequence_display_extension, 2),
    (.extension_id_4_copyright_extension, 4),
    (.extension_id_5_sequence_scalable_extension, 5),
    (.extension_id_6_reserved, 6),
    (.extension_id_7_picture_display_extension, 7),
    (.extension_id_9_picture_spatial_scalable_extension, 9),
    (.extension_id_10_picture_temporal_scalable_extension, 10),
    (.extension_id_11_camera_parameters_extension, 11),
    (.extension_id_12_itu_t_extension, 12),
    (.extension_id_13_reserved, 13),
    (.extension_id_14_reserved, 14),
    (.extension_id_15_reserved, 15) ]

/-- Table MBA but for its escape: code word length and increment (R232). -/
def mbaRows : List (Instr × Nat × Nat) :=
  [ (.MBA_1, 1, 1),
    (.MBA_3, 3, 3),
    (.MBA_2, 3, 2),
    (.MBA_5, 4, 5),
    (.MBA_4, 4, 4),
    (.MBA_7, 5, 7),
    (.MBA_6, 5, 6),
    (.MBA_9, 7, 9),
    (.MBA_8, 7, 8),
    (.MBA_15, 8, 15),
    (.MBA_14, 8, 14),
    (.MBA_13, 8, 13),
    (.MBA_12, 8, 12),
    (.MBA_11, 8, 11),
    (.MBA_10, 8, 10),
    (.MBA_21, 10, 21),
    (.MBA_20, 10, 20),
    (.MBA_19, 10, 19),
    (.MBA_18, 10, 18),
    (.MBA_17, 10, 17),
    (.MBA_16, 10, 16),
    (.MBA_33, 11, 33),
    (.MBA_32, 11, 32),
    (.MBA_31, 11, 31),
    (.MBA_30, 11, 30),
    (.MBA_29, 11, 29),
    (.MBA_28, 11, 28),
    (.MBA_27, 11, 27),
    (.MBA_26, 11, 26),
    (.MBA_25, 11, 25),
    (.MBA_24, 11, 24),
    (.MBA_23, 11, 23),
    (.MBA_22, 11, 22) ]

/-- Table MBTYPE_I: code word length and flags Q, F, B, P, I (R233). -/
def typeIRows : List (Instr × Nat × MbFlags) :=
  [ (.MBTYPE_I_I, 1, ⟨false, false, false, false, true⟩),
    (.MBTYPE_I_Q_I, 2, ⟨true, false, false, false, true⟩) ]

/-- Table MBTYPE_P: code word length and flags Q, F, B, P, I (R234). -/
def typePRows : List (Instr × Nat × MbFlags) :=
  [ (.MBTYPE_P_F_P, 1, ⟨false, true, false, true, false⟩),
    (.MBTYPE_P_P, 2, ⟨false, false, false, true, false⟩),
    (.MBTYPE_P_F, 3, ⟨false, true, false, false, false⟩),
    (.MBTYPE_P_Q_P, 5, ⟨true, false, false, true, false⟩),
    (.MBTYPE_P_Q_F_P, 5, ⟨true, true, false, true, false⟩),
    (.MBTYPE_P_I, 5, ⟨false, false, false, false, true⟩),
    (.MBTYPE_P_Q_I, 6, ⟨true, false, false, false, true⟩) ]

/-- Table MBTYPE_B: code word length and flags Q, F, B, P, I (R235). -/
def typeBRows : List (Instr × Nat × MbFlags) :=
  [ (.MBTYPE_B_F_B, 2, ⟨false, true, true, false, false⟩),
    (.MBTYPE_B_F_B_P, 2, ⟨false, true, true, true, false⟩),
    (.MBTYPE_B_B, 3, ⟨false, false, true, false, false⟩),
    (.MBTYPE_B_B_P, 3, ⟨false, false, true, true, false⟩),
    (.MBTYPE_B_F, 4, ⟨false, true, false, false, false⟩),
    (.MBTYPE_B_F_P, 4, ⟨false, true, false, true, false⟩),
    (.MBTYPE_B_Q_F_B_P, 5, ⟨true, true, true, true, false⟩),
    (.MBTYPE_B_I, 5, ⟨false, false, false, false, true⟩),
    (.MBTYPE_B_Q_I, 6, ⟨true, false, false, false, true⟩),
    (.MBTYPE_B_Q_B_P, 6, ⟨true, false, true, true, false⟩),
    (.MBTYPE_B_Q_F_P, 6, ⟨true, true, false, true, false⟩) ]

/-- The macroblock types of the three tables (R233 to R235). -/
def typeRows : List (Instr × Nat × MbFlags) := typeIRows ++ typePRows ++ typeBRows

/-- Table CBP: code word length and pattern (R236). Part 1. -/
def cbpRows1 : List (Instr × Nat × BitVec 6) :=
  [ (.CBP_60, 3, 60),
    (.CBP_32, 4, 32),
    (.CBP_16, 4, 16),
    (.CBP_8, 4, 8),
    (.CBP_4, 4, 4),
    (.CBP_62, 5, 62),
    (.CBP_2, 5, 2),
    (.CBP_61, 5, 61),
    (.CBP_1, 5, 1),
    (.CBP_56, 5, 56),
    (.CBP_52, 5, 52),
    (.CBP_44, 5, 44),
    (.CBP_28, 5, 28),
    (.CBP_40, 5, 40),
    (.CBP_20, 5, 20),
    (.CBP_48, 5, 48),
    (.CBP_12, 5, 12),
    (.CBP_63, 6, 63),
    (.CBP_3, 6, 3),
    (.CBP_36, 6, 36),
    (.CBP_24, 6, 24),
    (.CBP_34, 7, 34),
    (.CBP_18, 7, 18),
    (.CBP_10, 7, 10),
    (.CBP_6, 7, 6),
    (.CBP_33, 7, 33),
    (.CBP_17, 7, 17),
    (.CBP_9, 7, 9),
    (.CBP_5, 7, 5),
    (.CBP_58, 8, 58),
    (.CBP_54, 8, 54),
    (.CBP_46, 8, 46) ]

/-- Table CBP: code word length and pattern (R236). Part 2. -/
def cbpRows2 : List (Instr × Nat × BitVec 6) :=
  [ (.CBP_30, 8, 30),
    (.CBP_57, 8, 57),
    (.CBP_53, 8, 53),
    (.CBP_45, 8, 45),
    (.CBP_29, 8, 29),
    (.CBP_38, 8, 38),
    (.CBP_26, 8, 26),
    (.CBP_37, 8, 37),
    (.CBP_25, 8, 25),
    (.CBP_43, 8, 43),
    (.CBP_23, 8, 23),
    (.CBP_51, 8, 51),
    (.CBP_15, 8, 15),
    (.CBP_42, 8, 42),
    (.CBP_22, 8, 22),
    (.CBP_50, 8, 50),
    (.CBP_14, 8, 14),
    (.CBP_41, 8, 41),
    (.CBP_21, 8, 21),
    (.CBP_49, 8, 49),
    (.CBP_13, 8, 13),
    (.CBP_35, 8, 35),
    (.CBP_19, 8, 19),
    (.CBP_11, 8, 11),
    (.CBP_7, 8, 7),
    (.CBP_0, 9, 0),
    (.CBP_39, 9, 39),
    (.CBP_27, 9, 27),
    (.CBP_59, 9, 59),
    (.CBP_55, 9, 55),
    (.CBP_47, 9, 47),
    (.CBP_31, 9, 31) ]

/-- Table CBP: code word length and pattern (R236). -/
def cbpRows : List (Instr × Nat × BitVec 6) :=
  cbpRows1 ++ cbpRows2

/-- Table MV: code word length and magnitude (R237). -/
def mvRows : List (Instr × Nat × Nat) :=
  [ (.MV_0, 1, 0),
    (.MV_1, 2, 1),
    (.MV_2, 3, 2),
    (.MV_3, 4, 3),
    (.MV_4, 6, 4),
    (.MV_7, 7, 7),
    (.MV_6, 7, 6),
    (.MV_5, 7, 5),
    (.MV_10, 9, 10),
    (.MV_9, 9, 9),
    (.MV_8, 9, 8),
    (.MV_16, 10, 16),
    (.MV_15, 10, 15),
    (.MV_14, 10, 14),
    (.MV_13, 10, 13),
    (.MV_12, 10, 12),
    (.MV_11, 10, 11) ]

/-- Tables DCL and DCC: code word length and size (R238, R239). -/
def dcSizeRows : List (Instr × Nat × Nat) :=
  [ (.DCL_1, 2, 1),
    (.DCL_2, 2, 2),
    (.DCL_0, 3, 0),
    (.DCL_3, 3, 3),
    (.DCL_4, 3, 4),
    (.DCL_5, 4, 5),
    (.DCL_6, 5, 6),
    (.DCL_7, 6, 7),
    (.DCL_8, 7, 8),
    (.DCL_9, 8, 9),
    (.DCL_10, 9, 10),
    (.DCL_11, 9, 11),
    (.DCC_0, 2, 0),
    (.DCC_1, 2, 1),
    (.DCC_2, 2, 2),
    (.DCC_3, 3, 3),
    (.DCC_4, 4, 4),
    (.DCC_5, 5, 5),
    (.DCC_6, 6, 6),
    (.DCC_7, 7, 7),
    (.DCC_8, 8, 8),
    (.DCC_9, 9, 9),
    (.DCC_10, 10, 10),
    (.DCC_11, 10, 11) ]

/-- Table DCT0 with its first-coefficient form: code word length without the sign bit, run and level (R240, R241). Part 1. -/
def coef0Rows1 : List ((Bool → Instr) × Nat × Nat × Nat) :=
  [ (.DCT0__0_1, 2, 0, 1),
    (.DCT0__1_1, 3, 1, 1),
    (.DCT0__0_2, 4, 0, 2),
    (.DCT0__2_1, 4, 2, 1),
    (.DCT0__0_3, 5, 0, 3),
    (.DCT0__4_1, 5, 4, 1),
    (.DCT0__3_1, 5, 3, 1),
    (.DCT0__7_1, 6, 7, 1),
    (.DCT0__6_1, 6, 6, 1),
    (.DCT0__1_2, 6, 1, 2),
    (.DCT0__5_1, 6, 5, 1),
    (.DCT0__2_2, 7, 2, 2),
    (.DCT0__9_1, 7, 9, 1),
    (.DCT0__0_4, 7, 0, 4),
    (.DCT0__8_1, 7, 8, 1),
    (.DCT0__13_1, 8, 13, 1),
    (.DCT0__0_6, 8, 0, 6),
    (.DCT0__12_1, 8, 12, 1),
    (.DCT0__11_1, 8, 11, 1),
    (.DCT0__3_2, 8, 3, 2),
    (.DCT0__1_3, 8, 1, 3),
    (.DCT0__0_5, 8, 0, 5),
    (.DCT0__10_1, 8, 10, 1),
    (.DCT0__16_1, 10, 16, 1) ]

/-- Table DCT0 with its first-coefficient form: code word length without the sign bit, run and level (R240, R241). Part 2. -/
def coef0Rows2 : List ((Bool → Instr) × Nat × Nat × Nat) :=
  [ (.DCT0__5_2, 10, 5, 2),
    (.DCT0__0_7, 10, 0, 7),
    (.DCT0__2_3, 10, 2, 3),
    (.DCT0__1_4, 10, 1, 4),
    (.DCT0__15_1, 10, 15, 1),
    (.DCT0__14_1, 10, 14, 1),
    (.DCT0__4_2, 10, 4, 2),
    (.DCT0__0_11, 12, 0, 11),
    (.DCT0__8_2, 12, 8, 2),
    (.DCT0__4_3, 12, 4, 3),
    (.DCT0__0_10, 12, 0, 10),
    (.DCT0__2_4, 12, 2, 4),
    (.DCT0__7_2, 12, 7, 2),
    (.DCT0__21_1, 12, 21, 1),
    (.DCT0__20_1, 12, 20, 1),
    (.DCT0__0_9, 12, 0, 9),
    (.DCT0__19_1, 12, 19, 1),
    (.DCT0__18_1, 12, 18, 1),
    (.DCT0__1_5, 12, 1, 5),
    (.DCT0__3_3, 12, 3, 3),
    (.DCT0__0_8, 12, 0, 8),
    (.DCT0__6_2, 12, 6, 2),
    (.DCT0__17_1, 12, 17, 1),
    (.DCT0__10_2, 13, 10, 2) ]

/-- Table DCT0 with its first-coefficient form: code word length without the sign bit, run and level (R240, R241). Part 3. -/
def coef0Rows3 : List ((Bool → Instr) × Nat × Nat × Nat) :=
  [ (.DCT0__9_2, 13, 9, 2),
    (.DCT0__5_3, 13, 5, 3),
    (.DCT0__3_4, 13, 3, 4),
    (.DCT0__2_5, 13, 2, 5),
    (.DCT0__1_7, 13, 1, 7),
    (.DCT0__1_6, 13, 1, 6),
    (.DCT0__0_15, 13, 0, 15),
    (.DCT0__0_14, 13, 0, 14),
    (.DCT0__0_13, 13, 0, 13),
    (.DCT0__0_12, 13, 0, 12),
    (.DCT0__26_1, 13, 26, 1),
    (.DCT0__25_1, 13, 25, 1),
    (.DCT0__24_1, 13, 24, 1),
    (.DCT0__23_1, 13, 23, 1),
    (.DCT0__22_1, 13, 22, 1),
    (.DCT0__0_31, 14, 0, 31),
    (.DCT0__0_30, 14, 0, 30),
    (.DCT0__0_29, 14, 0, 29),
    (.DCT0__0_28, 14, 0, 28),
    (.DCT0__0_27, 14, 0, 27),
    (.DCT0__0_26, 14, 0, 26),
    (.DCT0__0_25, 14, 0, 25),
    (.DCT0__0_24, 14, 0, 24),
    (.DCT0__0_23, 14, 0, 23) ]

/-- Table DCT0 with its first-coefficient form: code word length without the sign bit, run and level (R240, R241). Part 4. -/
def coef0Rows4 : List ((Bool → Instr) × Nat × Nat × Nat) :=
  [ (.DCT0__0_22, 14, 0, 22),
    (.DCT0__0_21, 14, 0, 21),
    (.DCT0__0_20, 14, 0, 20),
    (.DCT0__0_19, 14, 0, 19),
    (.DCT0__0_18, 14, 0, 18),
    (.DCT0__0_17, 14, 0, 17),
    (.DCT0__0_16, 14, 0, 16),
    (.DCT0__0_40, 15, 0, 40),
    (.DCT0__0_39, 15, 0, 39),
    (.DCT0__0_38, 15, 0, 38),
    (.DCT0__0_37, 15, 0, 37),
    (.DCT0__0_36, 15, 0, 36),
    (.DCT0__0_35, 15, 0, 35),
    (.DCT0__0_34, 15, 0, 34),
    (.DCT0__0_33, 15, 0, 33),
    (.DCT0__0_32, 15, 0, 32),
    (.DCT0__1_14, 15, 1, 14),
    (.DCT0__1_13, 15, 1, 13),
    (.DCT0__1_12, 15, 1, 12),
    (.DCT0__1_11, 15, 1, 11),
    (.DCT0__1_10, 15, 1, 10),
    (.DCT0__1_9, 15, 1, 9),
    (.DCT0__1_8, 15, 1, 8),
    (.DCT0__1_18, 16, 1, 18) ]

/-- Table DCT0 with its first-coefficient form: code word length without the sign bit, run and level (R240, R241). Part 5. -/
def coef0Rows5 : List ((Bool → Instr) × Nat × Nat × Nat) :=
  [ (.DCT0__1_17, 16, 1, 17),
    (.DCT0__1_16, 16, 1, 16),
    (.DCT0__1_15, 16, 1, 15),
    (.DCT0__6_3, 16, 6, 3),
    (.DCT0__16_2, 16, 16, 2),
    (.DCT0__15_2, 16, 15, 2),
    (.DCT0__14_2, 16, 14, 2),
    (.DCT0__13_2, 16, 13, 2),
    (.DCT0__12_2, 16, 12, 2),
    (.DCT0__11_2, 16, 11, 2),
    (.DCT0__31_1, 16, 31, 1),
    (.DCT0__30_1, 16, 30, 1),
    (.DCT0__29_1, 16, 29, 1),
    (.DCT0__28_1, 16, 28, 1),
    (.DCT0__27_1, 16, 27, 1),
    (.DCT0_FIRST__0_1, 1, 0, 1) ]

/-- Table DCT0 with its first-coefficient form: code word length without the sign bit, run and level (R240, R241). -/
def coef0Rows : List ((Bool → Instr) × Nat × Nat × Nat) :=
  coef0Rows1 ++ coef0Rows2 ++ coef0Rows3 ++ coef0Rows4 ++ coef0Rows5

/-- Table DCT1: code word length without the sign bit, run and level (R242). Part 1. -/
def coef1Rows1 : List ((Bool → Instr) × Nat × Nat × Nat) :=
  [ (.DCT1__0_1, 2, 0, 1),
    (.DCT1__1_1, 3, 1, 1),
    (.DCT1__0_2, 3, 0, 2),
    (.DCT1__0_3, 4, 0, 3),
    (.DCT1__2_1, 5, 2, 1),
    (.DCT1__1_2, 5, 1, 2),
    (.DCT1__3_1, 5, 3, 1),
    (.DCT1__0_4, 5, 0, 4),
    (.DCT1__0_5, 5, 0, 5),
    (.DCT1__0_7, 6, 0, 7),
    (.DCT1__0_6, 6, 0, 6),
    (.DCT1__4_1, 6, 4, 1),
    (.DCT1__5_1, 6, 5, 1),
    (.DCT1__7_1, 7, 7, 1),
    (.DCT1__8_1, 7, 8, 1),
    (.DCT1__6_1, 7, 6, 1),
    (.DCT1__2_2, 7, 2, 2),
    (.DCT1__9_1, 7, 9, 1),
    (.DCT1__1_3, 7, 1, 3),
    (.DCT1__10_1, 7, 10, 1),
    (.DCT1__0_8, 7, 0, 8),
    (.DCT1__0_9, 7, 0, 9),
    (.DCT1__1_5, 8, 1, 5),
    (.DCT1__11_1, 8, 11, 1) ]

/-- Table DCT1: code word length without the sign bit, run and level (R242). Part 2. -/
def coef1Rows2 : List ((Bool → Instr) × Nat × Nat × Nat) :=
  [ (.DCT1__0_11, 8, 0, 11),
    (.DCT1__0_10, 8, 0, 10),
    (.DCT1__13_1, 8, 13, 1),
    (.DCT1__12_1, 8, 12, 1),
    (.DCT1__3_2, 8, 3, 2),
    (.DCT1__1_4, 8, 1, 4),
    (.DCT1__0_12, 8, 0, 12),
    (.DCT1__0_13, 8, 0, 13),
    (.DCT1__2_3, 8, 2, 3),
    (.DCT1__4_2, 8, 4, 2),
    (.DCT1__0_14, 8, 0, 14),
    (.DCT1__0_15, 8, 0, 15),
    (.DCT1__5_2, 9, 5, 2),
    (.DCT1__14_1, 9, 14, 1),
    (.DCT1__15_1, 9, 15, 1),
    (.DCT1__2_4, 10, 2, 4),
    (.DCT1__16_1, 10, 16, 1),
    (.DCT1__8_2, 12, 8, 2),
    (.DCT1__4_3, 12, 4, 3),
    (.DCT1__7_2, 12, 7, 2),
    (.DCT1__21_1, 12, 21, 1),
    (.DCT1__20_1, 12, 20, 1),
    (.DCT1__19_1, 12, 19, 1),
    (.DCT1__18_1, 12, 18, 1) ]

/-- Table DCT1: code word length without the sign bit, run and level (R242). Part 3. -/
def coef1Rows3 : List ((Bool → Instr) × Nat × Nat × Nat) :=
  [ (.DCT1__3_3, 12, 3, 3),
    (.DCT1__6_2, 12, 6, 2),
    (.DCT1__17_1, 12, 17, 1),
    (.DCT1__10_2, 13, 10, 2),
    (.DCT1__9_2, 13, 9, 2),
    (.DCT1__5_3, 13, 5, 3),
    (.DCT1__3_4, 13, 3, 4),
    (.DCT1__2_5, 13, 2, 5),
    (.DCT1__1_7, 13, 1, 7),
    (.DCT1__1_6, 13, 1, 6),
    (.DCT1__26_1, 13, 26, 1),
    (.DCT1__25_1, 13, 25, 1),
    (.DCT1__24_1, 13, 24, 1),
    (.DCT1__23_1, 13, 23, 1),
    (.DCT1__22_1, 13, 22, 1),
    (.DCT1__0_31, 14, 0, 31),
    (.DCT1__0_30, 14, 0, 30),
    (.DCT1__0_29, 14, 0, 29),
    (.DCT1__0_28, 14, 0, 28),
    (.DCT1__0_27, 14, 0, 27),
    (.DCT1__0_26, 14, 0, 26),
    (.DCT1__0_25, 14, 0, 25),
    (.DCT1__0_24, 14, 0, 24),
    (.DCT1__0_23, 14, 0, 23) ]

/-- Table DCT1: code word length without the sign bit, run and level (R242). Part 4. -/
def coef1Rows4 : List ((Bool → Instr) × Nat × Nat × Nat) :=
  [ (.DCT1__0_22, 14, 0, 22),
    (.DCT1__0_21, 14, 0, 21),
    (.DCT1__0_20, 14, 0, 20),
    (.DCT1__0_19, 14, 0, 19),
    (.DCT1__0_18, 14, 0, 18),
    (.DCT1__0_17, 14, 0, 17),
    (.DCT1__0_16, 14, 0, 16),
    (.DCT1__0_40, 15, 0, 40),
    (.DCT1__0_39, 15, 0, 39),
    (.DCT1__0_38, 15, 0, 38),
    (.DCT1__0_37, 15, 0, 37),
    (.DCT1__0_36, 15, 0, 36),
    (.DCT1__0_35, 15, 0, 35),
    (.DCT1__0_34, 15, 0, 34),
    (.DCT1__0_33, 15, 0, 33),
    (.DCT1__0_32, 15, 0, 32),
    (.DCT1__1_14, 15, 1, 14),
    (.DCT1__1_13, 15, 1, 13),
    (.DCT1__1_12, 15, 1, 12),
    (.DCT1__1_11, 15, 1, 11),
    (.DCT1__1_10, 15, 1, 10),
    (.DCT1__1_9, 15, 1, 9),
    (.DCT1__1_8, 15, 1, 8),
    (.DCT1__1_18, 16, 1, 18) ]

/-- Table DCT1: code word length without the sign bit, run and level (R242). Part 5. -/
def coef1Rows5 : List ((Bool → Instr) × Nat × Nat × Nat) :=
  [ (.DCT1__1_17, 16, 1, 17),
    (.DCT1__1_16, 16, 1, 16),
    (.DCT1__1_15, 16, 1, 15),
    (.DCT1__6_3, 16, 6, 3),
    (.DCT1__16_2, 16, 16, 2),
    (.DCT1__15_2, 16, 15, 2),
    (.DCT1__14_2, 16, 14, 2),
    (.DCT1__13_2, 16, 13, 2),
    (.DCT1__12_2, 16, 12, 2),
    (.DCT1__11_2, 16, 11, 2),
    (.DCT1__31_1, 16, 31, 1),
    (.DCT1__30_1, 16, 30, 1),
    (.DCT1__29_1, 16, 29, 1),
    (.DCT1__28_1, 16, 28, 1),
    (.DCT1__27_1, 16, 27, 1) ]

/-- Table DCT1: code word length without the sign bit, run and level (R242). -/
def coef1Rows : List ((Bool → Instr) × Nat × Nat × Nat) :=
  coef1Rows1 ++ coef1Rows2 ++ coef1Rows3 ++ coef1Rows4 ++ coef1Rows5

/-- The coefficient code words (R240 to R242). -/
def coefRows : List ((Bool → Instr) × Nat × Nat × Nat) := coef0Rows ++ coef1Rows

end Machine

end Sys2Proof
end

