-- ==== Sys2Proof/Certificates/Slice0/Obligations.lean ====
section
/-! DEFINITION. The statements about the core, from the numbered rules of spec/. Each docstring names the rules it rests on
and says which part is the model's own choice. -/

section Statements

open Sys2Proof Sys2Proof.Machine

-- ================================================================ encoding

/-- Code words and fields written out from 41_vlc_tables.md and 30_encoding.md R152, R153, R163 decode to their elements. -/
def Obligations.DecodeWords : Prop :=
  let rd (n w : Nat) : Nat → Bool := fun k => (natBits n w).getD k false
  decode .startCode (rd 32 0b00000000000000000000000110110011) 0 = some .sequence_header_code ∧
  decode .startCode (rd 32 0b00000000000000000000000100000101) 0 = some (.slice_start_code 5) ∧
  decode .extId (rd 4 0b1000) 0 = some .extension_id_8_picture_coding_extension ∧
  decode .sliceHeader (rd 6 0b010000) 0 = some (.slice_header_fields__no_intra_slice 8) ∧
  decode .mba (rd 11 0b00000011000) 0 = some .MBA_33 ∧
  decode .mbTypeB (rd 5 0b00010) 0 = some .MBTYPE_B_Q_F_B_P ∧
  decode .mbTypeP (rd 5 0b00010) 0 = some .MBTYPE_P_Q_F_P ∧
  decode .cbp (rd 9 0b000000001) 0 = some .CBP_0 ∧
  decode .mv (rd 10 0b0000001100) 0 = some .MV_16 ∧
  decode .dcl (rd 9 0b111111110) 0 = some .DCL_10 ∧
  decode .dcc (rd 10 0b1111111111) 0 = some .DCC_11 ∧
  decode .dct0 (rd 3 0b111) 0 = some (.DCT0__0_1 true) ∧
  decode .dct0First (rd 2 0b11) 0 = some (.DCT0_FIRST__0_1 true) ∧
  decode .dct0 (rd 24 0b000001000010111111111101) 0 = some (.DCT0_ESC 2 0xFFD) ∧
  decode .dct1 (rd 4 0b0110) 0 = some .DCT1_EOB

/-- R150 to R155, R160: from the bits `encode` gives a well-formed instruction, every context in which it may stand decodes
that instruction back, with every operand. -/
def Obligations.DecodeEncode : Prop :=
  ∀ (i : Instr) (c : DecCtx) (rd : Nat → Bool) (fuel : Nat),
    i.wf = true → i.inCtx c = true → Agrees rd (encode i) → (encode i).length ≤ fuel → decode c rd fuel = some i

/-- R152 to R155: whatever the bits, what is decoded in a context is a well-formed instruction of that context; a decoded
code word of a VLC table, with its sign or escape bits, stands at the bits. -/
def Obligations.DecodeSound : Prop :=
  ∀ (c : DecCtx) (rd : Nat → Bool) (fuel : Nat) (i : Instr),
    (∀ n, c = .dcDiff n → 1 ≤ n ∧ n ≤ 11) → decode c rd fuel = some i →
    i.wf = true ∧ i.inCtx c = true ∧ (c.isTable = true → Agrees rd (encode i))

/-- R154, R230: the code words of a table are prefix-free: at most one of them begins any bits. -/
def Obligations.CodeWordsPrefixFree : Prop :=
  ∀ t ∈ vlcTables, ∀ rd : Nat → Bool, (t.filter fun r => fld rd 0 r.len == r.code).length ≤ 1

/-- R231: bits are an invalid code of a table exactly when they begin with one of the prefixes R231 lists for it. -/
def Obligations.InvalidCodeSpaces : Prop :=
  ∀ t ∈ invalidPrefixes, ∀ rd : Nat → Bool, lookupVlc t.1 rd = none ↔ ∃ p ∈ t.2, Agrees rd p

-- ================================================================ a step

/-- A step runs the element due, decoded in its context at its place, and for a start code at the next prefix (R206, R207).
R246, R241, R430, R371, R372, R374: the context is the layout or the table the place in the syntax selects, a macroblock
type's by the coding type, a DC size's by the block, a coefficient's by the type flags, `intra_vlc_format` and
`P_INTRA_VLC`. The bits are those at the cursor; for the fields of an extension, whose layout counts from the identifier
(R153), they begin four bits before it (log entry 22, DEDUCED). The bound on the flags of an extra-information chain
(R321) is no less than the bits of the buffer, so a chain that ends inside the buffer is read to its end; past the end
the bound is the model's (log entry 7, DESIGN CHOICE). `ctx` is the model's (log entry 1). -/
def Obligations.StepRunsDecoded : Prop :=
  (∀ (s : State) (c : DecCtx) (i : Instr),
    (∀ m, s.ctx ≠ .startCode m) → s.decCtx = some c → decode c s.fetchBits s.chainFuel = some i → step s = exec i s) ∧
  (∀ (s : State) (m : ScanMode) (p : Nat) (i : Instr),
    s.ctx = .startCode m → s.NextPrefix p → decode .startCode (s.setBp p).fetchBits (s.setBp p).chainFuel = some i →
    step s = exec i { s with cmd := { s.cmd with bp := p } }) ∧
  (∀ s : State,
    (s.ctx = .idle → s.decCtx = none) ∧
    (∀ m, (s.ctx = .startCode m → s.decCtx = some .startCode) ∧ (s.ctx = .extId m → s.decCtx = some .extId) ∧
      (s.ctx = .seqExt m → s.decCtx = some .seqExt) ∧ (s.ctx = .quantMatrix m → s.decCtx = some .quantMatrix) ∧
      (s.ctx = .picCodingExt m → s.decCtx = some .picCodingExt)) ∧
    (∀ p ∈ [(Ctx.seqHeader, DecCtx.seqHeader), (.gop, .gop), (.picHeader, .picHeader), (.sliceHeader, .sliceHeader),
        (.mba true, .mba), (.mba false, .mba), (.frameMotionType, .frameMotionType), (.dctType, .dctType),
        (.mbQuant, .mbQuant), (.marker, .marker), (.cbp, .cbp)], s.ctx = p.1 → s.decCtx = some p.2) ∧
    (∀ r d, s.ctx = .fieldSelect r d → s.decCtx = some .fieldSelect) ∧
    (∀ r d t, s.ctx = .motionCode r d t → s.decCtx = some .mv) ∧
    (s.ctx = .mbType →
      s.decCtx = some
        (if s.pic.picture_coding_type = 1 then .mbTypeI
        else if s.pic.picture_coding_type = 2 then .mbTypeP
        else .mbTypeB)) ∧
    (∀ b : Fin 6, s.ctx = .dcSize b → s.decCtx = some (if b.val < 4 then .dcl else .dcc)) ∧
    (∀ b n, s.ctx = .dcDiff b n → s.decCtx = some (.dcDiff n)) ∧
    (∀ b first, s.ctx = .coef b first →
      (s.mb.mbType.i = true → s.pic.intra_vlc_format = true → s.cfg.intraVlc = .iso → s.decCtx = some .dct1) ∧
      (s.mb.mbType.i = true → s.pic.intra_vlc_format = false ∨ s.cfg.intraVlc ≠ .iso → s.decCtx = some .dct0) ∧
      (s.mb.mbType.i = false → s.decCtx = some (if first = true then .dct0First else .dct0)))) ∧
  (∀ (s : State) (k : Nat),
    ((∃ m, s.ctx = .seqExt m ∨ s.ctx = .quantMatrix m ∨ s.ctx = .picCodingExt m) →
      s.fetchBits k = s.bit false (s.cmd.bp - 4 + k)) ∧
    ((∀ m, s.ctx ≠ .seqExt m ∧ s.ctx ≠ .quantMatrix m ∧ s.ctx ≠ .picCodingExt m) →
      s.fetchBits k = s.bit false (s.cmd.bp + k))) ∧
  (∀ s : State, 8 * s.bufLen ≤ s.chainFuel)

/-- R230, R231, R665: where no code word of the table in use begins at the cursor, the step raises Corrupt(InvalidVlc)
with the cursor at the bits; where a field of fixed layout is due, some element is always decoded. `ctx` is the
model's (log entry 1). -/
def Obligations.StepInvalidCode : Prop :=
  (∀ (s : State) (c : DecCtx), s.decCtx = some c → decode c s.fetchBits s.chainFuel = none →
    step s = .next (takeCorrupt .invalidVlc s)) ∧
  (∀ (s : State) (c : DecCtx), s.decCtx = some c → c.isTable = false →
    (decode c s.fetchBits s.chainFuel).isSome = true)

/-- R592, R597, R606, R676: with no further start code the cursor goes to the end of the buffer and the command
returns: no picture decoded outside a picture, the picture published inside one. A structure other than 3 is refused
(R331), and the refusal leaves what was written before it, the cursor and R336's f_codes (R673; log entry 14, DEDUCED).
`ctx` is the model's (log entry 1), and so is the value a register keeps where it is unwritten again (R31, R44, R48, R49; log
entry 24, DESIGN CHOICE). -/
def Obligations.EndOfBuffer : Prop :=
  ∀ s : State, s.NoPrefix →
    (s.ctx = .startCode .top →
      step s = .next { s with
        ctx := .idle, outbox := s.outbox ++ [.decoded false s.bufLen s.cmd.errLog],
        cmd := { s.cmd with bp := 8 * s.bufLen, ok := false, consumed := s.bufLen } }) ∧
    (s.ctx = .startCode .skipSlices →
      step s = .next { s with
        ctx := .idle, outbox := s.outbox ++ [.decoded false s.bufLen s.cmd.errLog],
        inst := { s.inst with phase := .awaitPictureStart },
        cmd := { s.cmd with bp := 8 * s.bufLen, ok := false, consumed := s.bufLen } }) ∧
    (s.ctx = .startCode .slices →
      step s = .next { s with
        ctx := .idle, outbox := s.outbox ++ [.decoded true s.bufLen s.cmd.errLog],
        inst := { s.inst with
          phase := .pictureComplete, wr := (s.inst.wr + 1) % s.cfg.ringN,
          ring := s.inst.ring.set s.inst.wr
            { pts := s.cmd.pts, bufIdx := s.inst.curIdx, yStride := s.width, cStride := s.chromaWidth, w := s.width,
              h := s.height, srcSize := s.bufLen, codingType := s.pic.picture_coding_type } },
        cmd := { s.cmd with bp := 8 * s.bufLen, ok := true, consumed := s.bufLen } }) ∧
    (s.ctx = .startCode .picExt →
      (s.Supported → s.pic.picture_structure = 3 → step s = step s.pictureBegun) ∧
      (s.Supported → s.pic.picture_structure ≠ 3 →
        step s = .refused (.fieldPicture { s with cmd := { s.cmd with bp := 8 * s.bufLen }, pic := s.picDefaults })) ∧
      (¬ s.Supported →
        step s = step { s.log (.skippedPicture s.pic.picture_coding_type (8 * s.bufLen)) with
          ctx := .startCode .skipSlices, pic := s.picDefaults }))

/-- A step runs an element only where that element is due: the model's own fault for anything else is never raised.
`ctx` is the model's (log entry 1). -/
def Obligations.StepInContext : Prop := ∀ s : State, step s ≠ .fault .outOfContext

-- ================================================================ the cursor

/-- R200, R102: `BitRead(p, n)` is the n-bit number whose bit `n - 1 - k` is bitstream bit `p + k`, and bit `q` inside the buffer
is bit `7 - q mod 8` of byte `q div 8`. Past the end it is 0 under `P_PAST_END = zero`, a draw otherwise (R202). -/
def Obligations.BitReadAssemblesBits : Prop :=
  ∀ (s : State) (look : Bool) (p n : Nat),
    s.bitRead look p n < 2 ^ n ∧
    (∀ k, k < n → (s.bitRead look p n).testBit (n - 1 - k) = s.bit look (p + k)) ∧
    (∀ q, q < 8 * s.bufLen → s.bit look q = (s.cmd.pkt.getD (q / 8) 0).getLsbD (7 - q % 8)) ∧
    (∀ q, 8 * s.bufLen ≤ q → s.cfg.pastEnd = .zero → s.bit look q = false)

/-- R206: `getStartCode()` answers found with `bp` at the first byte-aligned prefix at or after the cursor, or none with `bp` at
the end of the buffer where there is no such prefix; it writes nothing else. -/
def Obligations.GetStartCode : Prop :=
  ∀ s : State,
    (∀ p, s.NextPrefix p → s.getStartCode = (true, { s with cmd := { s.cmd with bp := p } })) ∧
    (s.NoPrefix → s.getStartCode = (false, { s with cmd := { s.cmd with bp := 8 * s.bufLen } })) ∧
    (s.NoPrefix ∨ ∃ p, s.NextPrefix p)

-- ================================================================ Corrupt events

/-- R663, R615, R664: taking a Corrupt event appends its code and the cursor's position to the log, moves the cursor
to the next start-code prefix or the end of the buffer, and leaves every other register and every sample as it was;
the slice loop is where the core goes on. `ctx` is the model's (log entry 1). -/
def Obligations.TakeCorrupt : Prop :=
  ∀ (c : CorruptCode) (s : State),
    (∀ p, s.NextPrefix p →
      takeCorrupt c s = { s with
        ctx := .startCode .slices,
        cmd := { s.cmd with bp := p, errLog := s.cmd.errLog ++ [.corrupt c s.cmd.bp] } }) ∧
    (s.NoPrefix →
      takeCorrupt c s = { s with
        ctx := .startCode .slices,
        cmd := { s.cmd with bp := 8 * s.bufLen, errLog := s.cmd.errLog ++ [.corrupt c s.cmd.bp] } })

/-- R662, R663, R665: a step that logs a Corrupt event stands inside a slice; it leaves the phase as it was, goes on
at the slice loop's next start code, and records a position at or after its own. `ctx` is the model's (log entry 1).
-/
def Obligations.CorruptOnlyInSlices : Prop :=
  ∀ (s t : State) (c : CorruptCode) (p : Nat),
    step s = .next t → t.cmd.errLog = s.cmd.errLog ++ [.corrupt c p] →
    s.ctx.inSlice = true ∧ t.ctx = .startCode .slices ∧ t.inst.phase = s.inst.phase ∧ s.cmd.bp ≤ p

/-- R340, R434, R243, R430, R665: the forbidden and reserved field values raise their events with the cursor just past
the field, and dual-prime is refused, which leaves the state past the field (R673; log entry 14). `ctx` is the model's
(log entry 1). -/
def Obligations.ForbiddenFieldValues : Prop :=
  ∀ s : State,
    (s.ctx = .sliceHeader → exec (.slice_header_fields__no_intra_slice 0) s =
      .next (takeCorrupt .forbiddenQuant { s.consume 5 with slc := { s.slc with quantiser_scale_code := 0 } })) ∧
    (s.ctx = .mbQuant →
      exec (.macroblock_quantiser_scale_code 0) s = .next (takeCorrupt .forbiddenQuant (s.consume 5))) ∧
    (s.ctx = .frameMotionType →
      exec (.frame_motion_type 0) s = .next (takeCorrupt .reservedMotionType (s.consume 2)) ∧
      exec (.frame_motion_type 3) s = .refused (.dualPrime (s.consume 2))) ∧
    (∀ i first run level, s.ctx = .coef i first → level = 0 ∨ level = 2048 →
      exec (.DCT0_ESC run level) s = .next (takeCorrupt .invalidEscape (s.consume 24)) ∧
      exec (.DCT1_ESC run level) s = .next (takeCorrupt .invalidEscape (s.consume 24)))

-- ================================================================ start codes

/-- R592, R300, R302, R314, R315: a start code at the top of `decode`: while a sequence header is awaited every other
code is passed over; else each leads to its header, and what is not read is logged with its position (R55; for a
reserved code the model takes the cursor past it, log entry 23). `ctx` is the model's (log entry 1). The value a
register keeps where the spec gives it none (outside a slice, a macroblock or a command) is the model's (log entry 24,
DESIGN CHOICE). -/
def Obligations.TopLevelStartCodes : Prop :=
  ∀ s : State, s.ctx = .startCode .top →
    exec .sequence_header_code s = .next { s.consume 32 with ctx := .seqHeader } ∧
    (s.inst.phase = .awaitSequenceHeader →
      (∀ v, isSliceCode v = true → exec (.slice_start_code v) s = .next (s.consume 32)) ∧
      (∀ i c, OtherStartCode i c → i ≠ .sequence_header_code → exec i s = .next (s.consume 32))) ∧
    (s.inst.phase ≠ .awaitSequenceHeader →
      exec .picture_start_code s = .next { s.consume 32 with ctx := .picHeader } ∧
      exec .extension_start_code s = .next { s.consume 32 with ctx := .extId .top } ∧
      exec .user_data_start_code s = .next (s.consume 32) ∧
      exec .group_start_code s = .next { s.consume 32 with ctx := .gop } ∧
      exec .sequence_end_code s =
        .next { (s.consume 32).log (.sequenceEnd s.cmd.bp) with
          inst := { s.inst with phase := .awaitSequenceHeader } } ∧
      (∀ v, isSliceCode v = true →
        exec (.slice_start_code v) s = .next ((s.consume 32).log (.skippedSlice s.cmd.bp))) ∧
      (∀ r ∈ reservedCodeRows, exec r.1 s = .next ((s.consume 32).log (.skippedCode r.2 (s.cmd.bp + 32)))) ∧
      (∀ c : Byte, 0xB9 ≤ c.toNat →
        exec (.system_start_code c) s = .next ((s.consume 32).log (.skippedCode c (s.cmd.bp + 32)))))

/-- R597, R605, R606, R343: in a picture a slice start code names its row and its header is due; every other start code
completes the picture, which is published in the next slot, and `consumed` is the code's first byte. `ctx` is the
model's (log entry 1). The value a register keeps where the spec gives it none (outside a slice, a macroblock or a
command) is the model's (log entry 24, DESIGN CHOICE). -/
def Obligations.SliceLoopStartCodes : Prop :=
  ∀ s : State, s.ctx = .startCode .slices →
    (∀ v, isSliceCode v = true → exec (.slice_start_code v) s =
      .next { s.consume 32 with ctx := .sliceHeader, slc := { s.slc with sliceRow := v.toNat - 1 } }) ∧
    (∀ i c, OtherStartCode i c → exec i s =
      .next { s with
        ctx := .idle, outbox := s.outbox ++ [.decoded true (s.cmd.bp / 8) s.cmd.errLog],
        inst := { s.inst with
          phase := .pictureComplete, wr := (s.inst.wr + 1) % s.cfg.ringN,
          ring := s.inst.ring.set s.inst.wr
            { pts := s.cmd.pts, bufIdx := s.inst.curIdx, yStride := s.width, cStride := s.chromaWidth, w := s.width,
              h := s.height, srcSize := s.bufLen, codingType := s.pic.picture_coding_type } },
        cmd := { s.cmd with bp := s.cmd.bp + 32, ok := true, consumed := s.cmd.bp / 8 } })

/-- R301, R597, R331, R336, R601: after a picture header, extension and user-data codes are taken; any other start code
begins a picture of a supported type and is the first of its slice loop. A structure other than 3 is refused, which
leaves the picture registers as the extensions end them (R673; log entry 14). `ctx` is the model's (log entry 1). The
value a register keeps where the spec gives it none (outside a slice, a macroblock or a command) is the model's (log
entry 24, DESIGN CHOICE). -/
def Obligations.PictureStarts : Prop :=
  ∀ s : State, s.ctx = .startCode .picExt →
    exec .extension_start_code s = .next { s.consume 32 with ctx := .extId .picExt } ∧
    exec .user_data_start_code s = .next (s.consume 32) ∧
    (s.Supported → s.pic.picture_structure ≠ 3 →
      (∀ v, isSliceCode v = true →
        exec (.slice_start_code v) s = .refused (.fieldPicture { s.consume 32 with pic := s.picDefaults })) ∧
      (∀ i c, OtherStartCode i c → c ≠ 0xB5 → c ≠ 0xB2 →
        exec i s = .refused (.fieldPicture { s.consume 32 with pic := s.picDefaults }))) ∧
    (s.Supported → s.pic.picture_structure = 3 →
      (∀ v, isSliceCode v = true → exec (.slice_start_code v) s =
        .next { s.pictureBegun.consume 32 with
          ctx := .sliceHeader, slc := { s.slc with sliceRow := v.toNat - 1 } }) ∧
      (∀ i c, OtherStartCode i c → c ≠ 0xB5 → c ≠ 0xB2 → exec i s = exec i s.pictureBegun))

/-- R322, R597: a picture of another coding type is logged once and its slices are passed over; the start code that ends
them is handled at the top of `decode`, with the phase at `awaitPictureStart`. `ctx` is the model's (log entry 1). The
value a register keeps where the spec gives it none (outside a slice, a macroblock or a command) is the model's (log
entry 24, DESIGN CHOICE). -/
def Obligations.UnsupportedPictureSkipped : Prop :=
  ∀ s : State,
    (s.ctx = .startCode .picExt → ¬ s.Supported →
      (∀ v, isSliceCode v = true → exec (.slice_start_code v) s =
        .next { (s.consume 32).log (.skippedPicture s.pic.picture_coding_type (s.cmd.bp + 32)) with
          ctx := .startCode .skipSlices, pic := s.picDefaults }) ∧
      (∀ i c, OtherStartCode i c → c ≠ 0xB5 → c ≠ 0xB2 →
        exec i s = exec i
          { s.log (.skippedPicture s.pic.picture_coding_type (s.cmd.bp + 32)) with
            ctx := .startCode .top, pic := s.picDefaults, inst := { s.inst with phase := .awaitPictureStart } })) ∧
    (s.ctx = .startCode .skipSlices →
      (∀ v, isSliceCode v = true → exec (.slice_start_code v) s = .next (s.consume 32)) ∧
      (∀ i c, OtherStartCode i c → exec i s =
        exec i { s with ctx := .startCode .top, inst := { s.inst with phase := .awaitPictureStart } }))

-- ================================================================ headers

/-- R310, R311: an extension identifier is four bits; identifiers 1 and 8, and 3 under `P_LOAD_MATRICES = iso`, have
their fields read, every other one is logged with the cursor past it (R55; log entry 23) and skipped. `ctx` is the
model's (log entry 1). The value a register keeps where the spec gives it none (outside a slice, a macroblock or a
command) is the model's (log entry 24, DESIGN CHOICE). -/
def Obligations.ExtensionIdentifiers : Prop :=
  ∀ (s : State) (m : ScanMode), s.ctx = .extId m →
    (∀ r ∈ skippedIdRows, exec r.1 s =
      .next { (s.consume 4).log (.skippedExtension r.2 (s.cmd.bp + 4)) with ctx := .startCode m }) ∧
    exec .extension_id_1_sequence_extension s = .next { s.consume 4 with ctx := .seqExt m } ∧
    exec .extension_id_8_picture_coding_extension s = .next { s.consume 4 with ctx := .picCodingExt m } ∧
    (s.cfg.loadMatrices = .iso →
      exec .extension_id_3_quant_matrix_extension s = .next { s.consume 4 with ctx := .quantMatrix m }) ∧
    (s.cfg.loadMatrices = .ignore →
      exec .extension_id_3_quant_matrix_extension s =
        .next { (s.consume 4).log (.skippedExtension 3 (s.cmd.bp + 4)) with ctx := .startCode m })

/-- R303, R304, R305, R599, R675: a sequence header writes its fields and geometry; buffers of another geometry are
allocated, unwritten, with the roles and the slots' timestamps reset, or the allocation fails (a free value, log entry
5) and the command returns. The sizes of R305 are refused with no register written but the cursor (R673; log entry 14).
`ctx` is the model's (log entry 1), and so is the 2 that `curIdx` holds until a picture starts (R53; log entry 3). The
value a register keeps where the spec gives it none (outside a slice, a macroblock or a command) is the model's (log
entry 24, DESIGN CHOICE). -/
def Obligations.SequenceHeader : Prop :=
  ∀ (s : State) (hs vs : BitVec 12) (ar fr : BitVec 4) (br : BitVec 18) (mk : Bool) (vbv : BitVec 10) (cp : Bool)
    (intra nonIntra : Option (List Byte)), s.ctx = .seqHeader →
    let n := s.cmd.bp + 62 + matrixLen intra + matrixLen nonIntra
    let w := 16 * ((hs.toNat + 15) / 16)
    let h := 16 * ((vs.toNat + 15) / 16)
    let seq : SequenceRegs :=
      { s.seq with
        horizontal_size_value := hs, vertical_size_value := vs, aspect_ratio_information := ar, frame_rate_code := fr,
        bit_rate_value := br, vbv_buffer_size_value := vbv, constrained_parameters_flag := cp,
        load_intra_quantiser_matrix := intra.isSome, load_non_intra_quantiser_matrix := nonIntra.isSome,
        intraQ :=
          if s.cfg.loadMatrices = .iso then (intra.map (loadMatrix defaultIntra)).getD defaultIntra else s.seq.intraQ,
        nonIntraQ :=
          if s.cfg.loadMatrices = .iso then (nonIntra.map (loadMatrix defaultNonIntra)).getD defaultNonIntra
          else s.seq.nonIntraQ }
    let e := exec (.sequence_header_fields hs vs ar fr br mk vbv cp intra nonIntra) s
    (hs = 0 ∨ vs = 0 ∨ 2800 < vs.toNat → e = .refused (.geometry { s with cmd := { s.cmd with bp := n } })) ∧
    (hs ≠ 0 → vs ≠ 0 → vs.toNat ≤ 2800 →
      e = .next
        (if s.inst.allocated = some (w, h) then
          { s with
            ctx := .startCode .top, seq := seq, cmd := { s.cmd with bp := n },
            inst := { s.inst with phase := .awaitPictureStart } }
        else if Config.allocOk s.cmd.cmdNo n then
          { s with
            ctx := .startCode .top, seq := seq, cmd := { s.cmd with bp := n },
            inst := { s.inst with
              phase := .awaitPictureStart, allocated := some (w, h), fb := [], fwdIdx := 0, bwdIdx := 1, auxIdx := 2,
              curIdx := 2, ring := s.inst.ring.map fun k => { k with pts := 0 } } }
        else
          { s with
            ctx := .idle, seq := seq, inst := { s.inst with phase := .failed },
            outbox := s.outbox ++ [.decoded false s.bufLen (s.cmd.errLog ++ [.allocFailed])],
            cmd := { s.cmd with
              bp := n, errLog := s.cmd.errLog ++ [.allocFailed], ok := false, consumed := s.bufLen } }))

/-- R312, R674, R673: a sequence extension writes its ten fields; another chroma format is refused first, then a size
extension, and the refusal leaves the fields written (log entry 14). `ctx` is the model's (log entry 1). The value a
register keeps where the spec gives it none (outside a slice, a macroblock or a command) is the model's (log entry 24,
DESIGN CHOICE). -/
def Obligations.SequenceExtension : Prop :=
  ∀ (s : State) (m : ScanMode) (pl : BitVec 8) (prog : Bool) (cf hx vx : BitVec 2) (bx : BitVec 12) (mk : Bool)
    (vbvx : BitVec 8) (ld : Bool) (fn : BitVec 2) (fd : BitVec 5), s.ctx = .seqExt m →
    let e := exec (.sequence_extension_fields pl prog cf hx vx bx mk vbvx ld fn fd) s
    let t : State :=
      { s.consume 44 with
        seq := { s.seq with
          profile_and_level_indication := pl, progressive_sequence := prog, chroma_format := cf,
          horizontal_size_extension := hx, vertical_size_extension := vx, bit_rate_extension := bx,
          vbv_buffer_size_extension := vbvx, low_delay := ld, frame_rate_extension_n := fn,
          frame_rate_extension_d := fd } }
    (cf ≠ 1 → e = .refused (.chromaFormat t)) ∧
    (cf = 1 → hx ≠ 0 ∨ vx ≠ 0 → e = .refused (.sizeExtension t)) ∧
    (cf = 1 → hx = 0 → vx = 0 → e = .next { t with ctx := .startCode m })

/-- R306, R383: a quant matrix extension replaces the intra and the non-intra matrix it carries, each byte at its zig-
zag position, and discards the chroma ones. R313: a GOP header reads nothing and writes no register. `ctx` is the
model's (log entry 1). The value a register keeps where the spec gives it none (outside a slice, a macroblock or a
command) is the model's (log entry 24, DESIGN CHOICE). -/
def Obligations.QuantMatrixAndGop : Prop :=
  (∀ (s : State) (m : ScanMode) (a b c d : Option (List Byte)), s.ctx = .quantMatrix m →
    exec (.quant_matrix_extension_fields a b c d) s =
      .next { s.consume (matrixLen a + matrixLen b + matrixLen c + matrixLen d) with
        ctx := .startCode m,
        seq := { s.seq with
          intraQ := (a.map (loadMatrix s.seq.intraQ)).getD s.seq.intraQ,
          nonIntraQ := (b.map (loadMatrix s.seq.nonIntraQ)).getD s.seq.nonIntraQ } }) ∧
  (∀ old new : List Byte, old.length = 64 → (loadMatrix old new).length = 64 ∧
    ∀ k, k < 64 → (loadMatrix old new).getD (zigzagScan.getD k 0) 0 = new.getD k 0) ∧
  (∀ (s : State) (tc : BitVec 25) (cg bl : Bool), s.ctx = .gop →
    exec (.group_of_pictures_fields tc cg bl) s = .next { s with ctx := .startCode .top })

/-- R330, R41: a picture coding extension writes its registers and `pceSeen`; the composite display registers only when
its flag is 1. `ctx` is the model's (log entry 1). The value a register keeps where the spec gives it none (outside a
slice, a macroblock or a command) is the model's (log entry 24, DESIGN CHOICE). -/
def Obligations.PictureCodingExtension : Prop :=
  ∀ (s : State) (m : ScanMode) (f00 f01 f10 f11 : BitVec 4) (dcp ps : BitVec 2)
    (tff fpfd cmv qst ivf alt rff c420 pf : Bool) (cd : Option CompositeDisplay), s.ctx = .picCodingExt m →
    let r : PictureRegs :=
      { s.pic with
        f_code := ⟨⟨f00, f01⟩, ⟨f10, f11⟩⟩, intra_dc_precision := dcp, picture_structure := ps, top_field_first := tff,
        frame_pred_frame_dct := fpfd, concealment_motion_vectors := cmv, q_scale_type := qst, intra_vlc_format := ivf,
        alternate_scan := alt, repeat_first_field := rff, chroma_420_type := c420, progressive_frame := pf,
        composite_display_flag := cd.isSome, pceSeen := true }
    exec (.picture_coding_extension_fields f00 f01 f10 f11 dcp ps tff fpfd cmv qst ivf alt rff c420 pf cd) s =
      .next
        (match cd with
        | none => { s.consume 30 with ctx := .startCode m, pic := r }
        | some d =>
          { s.consume 50 with
            ctx := .startCode m,
            pic := { r with
              v_axis := d.v_axis, field_sequence := d.field_sequence, sub_carrier := d.sub_carrier,
              burst_amplitude := d.burst_amplitude, sub_carrier_phase := d.sub_carrier_phase } })

/-- R320, R321, R42: a picture header resets the picture registers to the values of R42, writes the fields its coding
type carries, and passes over the extra-information chain of 9 bits a byte and a stop bit. `ctx` is the model's (log
entry 1). The value a register keeps where the spec gives it none (outside a slice, a macroblock or a command) is the
model's (log entry 24, DESIGN CHOICE). -/
def Obligations.PictureHeaders : Prop :=
  ∀ (s : State) (tr : BitVec 10) (vd : BitVec 16) (extra : List Byte), s.ctx = .picHeader →
    let base (ct : BitVec 3) : PictureRegs :=
      { s.pic with
        temporal_reference := tr, picture_coding_type := ct, vbv_delay := vd, full_pel_forward_vector := false,
        forward_f_code := 7, full_pel_backward_vector := false, backward_f_code := 7,
        f_code := ⟨⟨15, 15⟩, ⟨15, 15⟩⟩, intra_dc_precision := 0, picture_structure := 3, top_field_first := false,
        frame_pred_frame_dct := true, concealment_motion_vectors := false, q_scale_type := false,
        intra_vlc_format := false, alternate_scan := false, repeat_first_field := false, chroma_420_type := false,
        progressive_frame := true, composite_display_flag := false, pceSeen := false }
    exec (.picture_header_I_fields tr vd extra) s =
      .next { s.consume (29 + (9 * extra.length + 1)) with ctx := .startCode .picExt, pic := base 1 } ∧
    (∀ (fpf : Bool) (ff : BitVec 3), exec (.picture_header_P_fields tr vd fpf ff extra) s =
      .next { s.consume (33 + (9 * extra.length + 1)) with
        ctx := .startCode .picExt, pic := { base 2 with full_pel_forward_vector := fpf, forward_f_code := ff } }) ∧
    (∀ (fpf : Bool) (ff : BitVec 3) (fpb : Bool) (bf : BitVec 3),
      exec (.picture_header_B_fields tr vd fpf ff fpb bf extra) s =
        .next { s.consume (37 + (9 * extra.length + 1)) with
          ctx := .startCode .picExt,
          pic := { base 3 with
            full_pel_forward_vector := fpf, forward_f_code := ff, full_pel_backward_vector := fpb,
            backward_f_code := bf } }) ∧
    (∀ ct : BitVec 3, exec (.picture_header_other_type_fields tr ct vd extra) s =
      .next { s.consume (29 + (9 * extra.length + 1)) with ctx := .startCode .picExt, pic := base ct })

/-- R340, R341, R610, R385: a slice header with a quantiser code other than 0 writes the quantiser registers, and the
slice begins with the DC predictors at `2^(7 + intra_dc_precision)`, the vector predictors, field selects and previous
type cleared. `ctx` is the model's (log entry 1), and so is the increment read so far, `mbaInc`, 0 at the start of a
slice (log entry 12, DEDUCED). The value a register keeps where the spec gives it none (outside a slice, a macroblock or
a command) is the model's (log entry 24, DESIGN CHOICE). -/
def Obligations.SliceHeaders : Prop :=
  ∀ (s : State) (q : BitVec 5) (x : BitVec 8) (extra : List Byte), s.ctx = .sliceHeader → q ≠ 0 →
    let dc : Int := 2 ^ (7 + s.pic.intra_dc_precision.toNat)
    let z : Pair (Pair (Pair Int)) := ⟨⟨⟨0, 0⟩, ⟨0, 0⟩⟩, ⟨⟨0, 0⟩, ⟨0, 0⟩⟩⟩
    let t : State :=
      { s with
        ctx := .mba true, mb := { s.mb with prevMbType := ⟨false, false, false, false, false⟩ },
        slc := { s.slc with
          quantiser_scale_code := q,
          quantiserScale := if s.pic.q_scale_type then nonlinearScale.getD q.toNat 0 else 2 * q.toNat,
          mbaInc := 0, dcPred := ⟨dc, dc, dc⟩, pmv := z, mvfs := ⟨⟨false, false⟩, ⟨false, false⟩⟩ } }
    exec (.slice_header_fields__no_intra_slice q) s = .next (t.consume 6) ∧
    exec (.slice_header_fields__intra_slice q x extra) s = .next (t.consume (14 + (9 * extra.length + 1)))

-- ================================================================ macroblock addresses

/-- R611, R612, R343: the first increment of a slice, its escapes of 33 added up, is an absolute column of the slice's
row: the macroblock there begins with its blocks zeroed, or the address is out of the grid. An escape adds 33 and makes
another code word due. `ctx` is the model's (log entry 1). So is `mbaInc` between elements (log entry 12). The value a
register keeps where the spec gives it none (outside a slice, a macroblock or a command) is the model's (log entry 24,
DESIGN CHOICE). -/
def Obligations.FirstMacroblockAddress : Prop :=
  (∀ r ∈ mbaRows, ∀ s : State, s.ctx = .mba true →
    let inc := s.slc.mbaInc + r.2.2
    let a := s.slc.sliceRow * s.mbWidth + inc - 1
    (s.slc.sliceRow < s.mbHeight → a < s.mbCount →
      exec r.1 s = .next { s.consume r.2.1 with
        ctx := .mbType, slc := { s.slc with mba := a, mbaInc := 0 },
        mb := { s.mb with blk := List.replicate 6 (List.replicate 64 0) } }) ∧
    (s.mbHeight ≤ s.slc.sliceRow ∨ s.mbCount ≤ a →
      exec r.1 s = .next (takeCorrupt .mbAddressOverflow
        { s.consume r.2.1 with slc := { s.slc with mbaInc := inc } }))) ∧
  (∀ (s : State) (first : Bool), s.ctx = .mba first →
    exec .MBA_ESC s = .next { s.consume 11 with slc := { s.slc with mbaInc := s.slc.mbaInc + 33 } })

/-- R614, R612: a later increment of 1 codes the next macroblock; one that reaches the end of the grid raises
Corrupt(MbAddressOverflow) before anything is skipped. `ctx` is the model's (log entry 1). So is `mbaInc`, the increment
read so far and 0 after its use (log entry 12, DEDUCED). The value a register keeps where the spec gives it none
(outside a slice, a macroblock or a command) is the model's (log entry 24, DESIGN CHOICE). -/
def Obligations.NextMacroblockAddress : Prop :=
  ∀ r ∈ mbaRows, ∀ s : State, s.ctx = .mba false →
    let inc := s.slc.mbaInc + r.2.2
    (inc = 1 → s.slc.mba + 1 < s.mbCount →
      exec r.1 s = .next { s.consume r.2.1 with
        ctx := .mbType, slc := { s.slc with mba := s.slc.mba + 1, mbaInc := 0 },
        mb := { s.mb with blk := List.replicate 6 (List.replicate 64 0) } }) ∧
    (s.mbCount ≤ s.slc.mba + inc →
      exec r.1 s = .next (takeCorrupt .mbAddressOverflow
        { s.consume r.2.1 with slc := { s.slc with mbaInc := inc } }))

/-- R452, R614: a skip in a picture other than P or B, or in a B picture whose previous macroblock has no prediction
direction, raises Corrupt(SkipWithoutPrediction) at the first skipped address, with the registers R452 writes before
it. `ctx` is the model's (log entry 1). So is `mbaInc` between elements (log entry 12). -/
def Obligations.SkipWithoutPrediction : Prop :=
  ∀ r ∈ mbaRows, ∀ s : State, s.ctx = .mba false →
    let inc := s.slc.mbaInc + r.2.2
    let dc : Int := 2 ^ (7 + s.pic.intra_dc_precision.toNat)
    2 ≤ inc → s.slc.mba + inc < s.mbCount → s.pic.picture_coding_type ≠ 2 →
    (s.pic.picture_coding_type = 3 → s.mb.prevMbType.f = false ∧ s.mb.prevMbType.b = false) →
    exec r.1 s = .next (takeCorrupt .skipWithoutPrediction
      { s.consume r.2.1 with
        slc := { s.slc with mba := s.slc.mba + 1, mbaInc := inc - 1, dcPred := ⟨dc, dc, dc⟩ },
        mb := { s.mb with
          blk := List.replicate 6 (List.replicate 64 0), cbp := 0, motionType := .frame, mvCount := 1,
          mvFormat := .frame, mvScale := false, dctType := false,
          mbType :=
            if s.pic.picture_coding_type = 3 then ⟨false, false, false, false, false⟩ else s.mb.mbType } })

/-- R452, R614, R532, R537, R547: an increment skips the macroblocks between, and the one it names is coded next; the DC
predictors are reset and nothing else in the buffers changes. In a P picture each skipped macroblock is left equal to
the co-located one of the forward reference (R547 is the spec's own inference), and the forward vectors are reset. In a
B picture each takes the directions of the previous macroblock and the vectors as they stand, and its samples are the
prediction there. `ctx` is the model's (log entry 1). So is `mbaInc`, the increment read so far and 0 after its use (log
entry 12, DEDUCED). The value a register keeps where the spec gives it none (outside a slice, a macroblock or a command)
is the model's (log entry 24, DESIGN CHOICE). -/
def Obligations.SkipRunsPredict : Prop :=
  (∀ r ∈ mbaRows, ∀ s : State, s.ctx = .mba false →
    let inc := s.slc.mbaInc + r.2.2
    let dc : Int := 2 ^ (7 + s.pic.intra_dc_precision.toNat)
    2 ≤ inc → s.slc.mba + inc < s.mbCount → s.pic.picture_coding_type = 2 →
    s.inst.allocated = some (s.width, s.height) → s.inst.curIdx ≠ s.inst.fwdIdx →
    (∀ a, s.slc.mba < a → a < s.slc.mba + inc → s.MbWritten s.inst.fwdIdx a) →
    ∃ m : Memory,
      exec r.1 s = .next
        { s.consume r.2.1 with
          ctx := .mbType, inst := { s.inst with fb := m },
          slc := { s.slc with
            mba := s.slc.mba + inc, mbaInc := 0, dcPred := ⟨dc, dc, dc⟩,
            pmv := ⟨⟨⟨0, 0⟩, s.slc.pmv.p0.p1⟩, ⟨⟨0, 0⟩, s.slc.pmv.p1.p1⟩⟩ },
          mb := { s.mb with
            blk := List.replicate 6 (List.replicate 64 0), cbp := 0, motionType := .frame, mvCount := 1,
            mvFormat := .frame, mvScale := false, dctType := false, mbType := ⟨false, true, false, false, false⟩,
            prevMbType := ⟨false, true, false, false, false⟩ } } ∧
      (∀ a c row col, s.slc.mba < a → a < s.slc.mba + inc → row < mbPlaneWidth c → col < mbPlaneWidth c →
        m.read (s.mbAddr s.inst.curIdx a c row col) = s.mbSample s.inst.fwdIdx a c row col) ∧
      (∀ n, (∀ a, s.slc.mba < a → a < s.slc.mba + inc → s.OutsideMb s.inst.curIdx a n) →
        m.read n = s.inst.fb.read n)) ∧
  (∀ r ∈ mbaRows, ∀ s : State, s.ctx = .mba false →
    let inc := s.slc.mbaInc + r.2.2
    let dc : Int := 2 ^ (7 + s.pic.intra_dc_precision.toNat)
    let dirs : MbFlags := ⟨false, s.mb.prevMbType.f, s.mb.prevMbType.b, false, false⟩
    let skipped (a : Nat) : State :=
      { s with slc := { s.slc with mba := a }, mb := { s.mb with motionType := .frame, mbType := dirs } }
    2 ≤ inc → s.slc.mba + inc < s.mbCount → s.pic.picture_coding_type = 3 →
    s.mb.prevMbType.f = true ∨ s.mb.prevMbType.b = true →
    s.inst.allocated = some (s.width, s.height) → s.inst.curIdx ≠ s.inst.fwdIdx → s.inst.curIdx ≠ s.inst.bwdIdx →
    (∀ a, s.slc.mba < a → a < s.slc.mba + inc → ∃ p, (skipped a).prediction = .ok p) →
    ∃ m : Memory,
      exec r.1 s = .next
        { s.consume r.2.1 with
          ctx := .mbType, inst := { s.inst with fb := m },
          slc := { s.slc with mba := s.slc.mba + inc, mbaInc := 0, dcPred := ⟨dc, dc, dc⟩ },
          mb := { s.mb with
            blk := List.replicate 6 (List.replicate 64 0), cbp := 0, motionType := .frame, mvCount := 1,
            mvFormat := .frame, mvScale := false, dctType := false, mbType := dirs, prevMbType := dirs } } ∧
      (∀ a p c row col, s.slc.mba < a → a < s.slc.mba + inc → row < mbPlaneWidth c → col < mbPlaneWidth c →
        (skipped a).prediction = .ok p →
        m.read (s.mbAddr s.inst.curIdx a c row col) = some (BitVec.ofNat 8 (min 255 (predAt p c row col)))) ∧
      (∀ n, (∀ a, s.slc.mba < a → a < s.slc.mba + inc → s.OutsideMb s.inst.curIdx a n) →
        m.read n = s.inst.fb.read n))

-- ================================================================ macroblock fields

/-- R430, R431, R454: a macroblock type writes `mbType`; a direction in a picture without `frame_pred_frame_dct` makes
`frame_motion_type` due, else the motion type is frame for a direction or concealment vectors and none otherwise, the
registers of R431 follow, and what R454 reads next is due, or the macroblock ends (`State.PatternDue`). `ctx` is the
model's (log entry 1), and so is `mbaInc` after the macroblock (log entry 12, DEDUCED). The value a register keeps where
the spec gives it none (outside a slice, a macroblock or a command) is the model's (log entry 24, DESIGN CHOICE). -/
def Obligations.MacroblockTypes : Prop :=
  ∀ r ∈ typeRows, ∀ s : State, s.ctx = .mbType →
    let f := r.2.2
    let directed := f.f = true ∨ f.b = true
    (directed → s.pic.frame_pred_frame_dct = false →
      exec r.1 s = .next { s.consume r.2.1 with ctx := .frameMotionType, mb := { s.mb with mbType := f } }) ∧
    (¬ (directed ∧ s.pic.frame_pred_frame_dct = false) →
      State.DctTypeDue
        { s.consume r.2.1 with
          mb := { s.mb with
            mbType := f, mvCount := 1, mvFormat := .frame, mvScale := false, dctType := false,
            motionType :=
              if directed ∨ (f.i = true ∧ s.pic.concealment_motion_vectors = true) then .frame else .none } }
        (exec r.1 s))

/-- R430, R431: `frame_motion_type` 1 is field motion with two vectors in field format, 2 frame motion with one. `ctx`
is the model's (log entry 1), and so is `mbaInc` after a macroblock that ends here (log entry 12, DEDUCED). The value a
register keeps where the spec gives it none (outside a slice, a macroblock or a command) is the model's (log entry 24,
DESIGN CHOICE). -/
def Obligations.FrameMotionType : Prop :=
  ∀ s : State, s.ctx = .frameMotionType →
    State.DctTypeDue
      { s.consume 2 with
        mb := { s.mb with
          motionType := .field, mvCount := 2, mvFormat := .field, mvScale := true, dctType := false } }
      (exec (.frame_motion_type 1) s) ∧
    State.DctTypeDue
      { s.consume 2 with
        mb := { s.mb with
          motionType := .frame, mvCount := 1, mvFormat := .frame, mvScale := false, dctType := false } }
      (exec (.frame_motion_type 2) s)

/-- R431, R454: `dct_type` is stored. R434, R341: a macroblock quantiser code other than 0 replaces the quantiser
registers. `ctx` is the model's (log entry 1), and so is `mbaInc` after a macroblock that ends here (log entry 12,
DEDUCED). The value a register keeps where the spec gives it none (outside a slice, a macroblock or a command) is the
model's (log entry 24, DESIGN CHOICE). -/
def Obligations.DctTypeAndQuantiser : Prop :=
  ∀ s : State,
    (∀ t, s.ctx = .dctType → State.QuantDue { s.consume 1 with mb := { s.mb with dctType := t } }
      (exec (.dct_type t) s)) ∧
    (∀ q, s.ctx = .mbQuant → q ≠ 0 →
      State.VectorsDue
        { s.consume 5 with
          slc := { s.slc with
            quantiser_scale_code := q,
            quantiserScale := if s.pic.q_scale_type then nonlinearScale.getD q.toNat 0 else 2 * q.toNat } }
        (exec (.macroblock_quantiser_scale_code q) s))

/-- R437, R237, R442, R436: a motion code of magnitude `m`, with its sign bit and its residual of `f_code - 1` bits,
updates one vector component through `decodeVector`, a vertical component of a field vector halved before and doubled
after; after the vertical component a single vector is copied to the second predictor. Then the next component, vector
or direction is due; after the last vector the pattern, or with neither pattern nor intra the macroblock ends with `cbp`
0 (R445, R454: `State.PatternDue`). `ctx` is the model's (log entry 1), and so is `mbaInc` after the macroblock (log
entry 12, DEDUCED). The sign and residual are read by the meaning (log entry 11). The value a register keeps where the
spec gives it none (outside a slice, a macroblock or a command) is the model's (log entry 24, DESIGN CHOICE). -/
def Obligations.MotionCodes : Prop :=
  ∀ r ∈ mvRows, ∀ (s : State) (v d t : Bool), s.ctx = .motionCode v d t →
    let m := r.2.2
    let rs := s.fCode d t - 1
    let a := s.consume r.2.1
    let code : Int := if m = 0 then 0 else if a.bit false a.cmd.bp then -(m : Int) else m
    let res : Nat := if m = 0 ∨ rs = 0 then 0 else (a.consume 1).bitRead false (a.cmd.bp + 1) rs
    let n := r.2.1 + (if m = 0 then 0 else 1 + rs)
    let fp := if d then s.pic.full_pel_backward_vector else s.pic.full_pel_forward_vector
    let old := ((s.slc.pmv.get v).get d).get t
    let new : Int :=
      if t = true ∧ s.mb.mvScale = true then decodeVector (old / 2) code res rs fp * 2
      else decodeVector old code res rs fp
    let s1 : State := { s.consume n with slc := s.slc.setPmv v d t new }
    let s2 : State := { s1 with
      slc := { s1.slc with pmv := s1.slc.pmv.set true ((s1.slc.pmv.get true).set d ((s1.slc.pmv.get false).get d)) } }
    (t = false → s.FCodeOk d true → exec r.1 s = .next { s1 with ctx := .motionCode v d true }) ∧
    (t = false → ¬ s.FCodeOk d true → exec r.1 s = .next (takeCorrupt .invalidFCode s1)) ∧
    (t = true → s.mb.mvCount = 1 → d = false → s2.BackwardDue (exec r.1 s)) ∧
    (t = true → s.mb.mvCount = 1 → d = true → s.concealed = false → s2.PatternDue (exec r.1 s)) ∧
    (t = true → s.mb.mvCount = 2 → v = false → exec r.1 s = .next { s1 with ctx := .fieldSelect true d }) ∧
    (t = true → s.mb.mvCount = 2 → v = true → d = false → s1.BackwardDue (exec r.1 s)) ∧
    (t = true → s.mb.mvCount = 2 → v = true → d = true → s.concealed = false → s1.PatternDue (exec r.1 s))

/-- R440, R436, R437: a field select is stored and its vector's first motion code is due, where its f_code is in range.
R454, R444: the marker bit of concealment vectors is read whatever its value, and the pattern is next, or its default
(`State.PatternDue`). `ctx` is the model's (log entry 1), and so is `mbaInc` after a macroblock that ends here (log
entry 12, DEDUCED). The value a register keeps where the spec gives it none (outside a slice, a macroblock or a command)
is the model's (log entry 24, DESIGN CHOICE). -/
def Obligations.FieldSelectAndMarker : Prop :=
  (∀ (s : State) (v d f : Bool), s.ctx = .fieldSelect v d →
    let s1 : State := { s.consume 1 with slc := { s.slc with mvfs := s.slc.mvfs.set v ((s.slc.mvfs.get v).set d f) } }
    (s.FCodeOk d false →
      exec (.motion_vertical_field_select f) s = .next { s1 with ctx := .motionCode v d false }) ∧
    (¬ s.FCodeOk d false → exec (.motion_vertical_field_select f) s = .next (takeCorrupt .invalidFCode s1))) ∧
  (∀ (s : State) (b : Bool), s.ctx = .marker → (s.consume 1).PatternDue (exec (.concealment_marker_bit b) s))

/-- R445, R446: a coded block pattern is stored and the first block whose bit `5 - i` is set is due. `ctx` is the
model's (log entry 1). -/
def Obligations.CodedBlockPattern : Prop :=
  ∀ r ∈ cbpRows, ∀ (s : State) (i : Fin 6), s.ctx = .cbp →
    r.2.2.getLsbD (5 - i.val) = true → (∀ j : Fin 6, j.val < i.val → r.2.2.getLsbD (5 - j.val) = false) →
    (s.mb.mbType.i = true →
      exec r.1 s = .next { s.consume r.2.1 with ctx := .dcSize i, mb := { s.mb with cbp := r.2.2 } }) ∧
    (s.mb.mbType.i = false →
      exec r.1 s = .next { s.consume r.2.1 with
        ctx := .coef i true, mb := { s.mb with cbp := r.2.2, coefIdx := -1 } })

-- ================================================================ blocks

/-- R372, R373, R371, R374: a DC size makes that many bits due, and a size of 0 stands for a differential of 0; a
differential of `size` bits below `2^(size - 1)` is negative. It is added to its component's predictor, and the
predictor, shifted left by `3 - intra_dc_precision`, is coefficient 0 of the block. `ctx` is the model's (log entry
1). -/
def Obligations.DcCoefficients : Prop :=
  ∀ (s : State) (i : Fin 6),
    let c : Plane := if i.val < 4 then .y else if i.val = 4 then .cb else .cr
    let stored (diff : Int) (n : Nat) : State :=
      { s.consume n with
        ctx := .coef i false, slc := { s.slc with dcPred := s.slc.dcPred.set c (s.slc.dcPred.get c + diff) },
        mb := { s.mb with
          coefIdx := 0,
          blk := s.mb.blk.set i.val ((s.mb.blk.getD i.val []).set 0
            ((s.slc.dcPred.get c + diff) * 2 ^ (3 - s.pic.intra_dc_precision.toNat))) } }
    (∀ r ∈ dcSizeRows, s.ctx = .dcSize i →
      (r.2.2 ≠ 0 → exec r.1 s = .next { s.consume r.2.1 with ctx := .dcDiff i r.2.2 }) ∧
      (r.2.2 = 0 → exec r.1 s = .next (stored 0 r.2.1))) ∧
    (∀ size v, s.ctx = .dcDiff i size → 1 ≤ size → v < 2 ^ size →
      exec (.dct_dc_differential size v) s =
        .next (stored (if v < 2 ^ (size - 1) then (v : Int) - (2 ^ size - 1) else v) size))

/-- R374, R379, R380, R383: a coefficient code word advances the index by `run + 1`; past 63 it raises
Corrupt(CoefIndexOverflow), else the level, dequantised on its magnitude, is written at the scanned position. `ctx` is
the model's (log entry 1). -/
def Obligations.Coefficients : Prop :=
  ∀ r ∈ coefRows, ∀ (s : State) (i : Fin 6) (first sgn : Bool), s.ctx = .coef i first → -1 ≤ s.mb.coefIdx →
    let len := r.2.1
    let run := r.2.2.1
    let m := r.2.2.2
    let idx : Int := s.mb.coefIdx + run + 1
    let j := (if s.pic.alternate_scan then alternateScan else zigzagScan).getD idx.toNat 0
    let mag : Nat :=
      if s.mb.mbType.i then (m * s.slc.quantiserScale * (s.seq.intraQ.getD j 0).toNat) / 16
      else ((2 * m + 1) * s.slc.quantiserScale * (s.seq.nonIntraQ.getD j 0).toNat) / 32
    (64 ≤ idx →
      exec (r.1 sgn) s = .next (takeCorrupt .coefIndexOverflow
        { s.consume (len + 1) with mb := { s.mb with coefIdx := idx } })) ∧
    (idx < 64 →
      exec (r.1 sgn) s = .next { s.consume (len + 1) with
        ctx := .coef i false,
        mb := { s.mb with
          coefIdx := idx,
          blk := s.mb.blk.set i.val ((s.mb.blk.getD i.val []).set j (if sgn then -(mag : Int) else mag)) } })

/-- R243, R378, R374: an escape of either table carries a 6-bit run and a 12-bit two's complement level, treated as
any other coefficient. `ctx` is the model's (log entry 1). -/
def Obligations.EscapedCoefficients : Prop :=
  ∀ e ∈ [Instr.DCT0_ESC, Instr.DCT1_ESC],
  ∀ (s : State) (i : Fin 6) (first : Bool) (run : BitVec 6) (level : BitVec 12),
    s.ctx = .coef i first → -1 ≤ s.mb.coefIdx → level ≠ 0 → level ≠ 2048 →
    let v : Int := level.toInt
    let idx : Int := s.mb.coefIdx + run.toNat + 1
    let j := (if s.pic.alternate_scan then alternateScan else zigzagScan).getD idx.toNat 0
    let mag : Nat :=
      if s.mb.mbType.i then (v.natAbs * s.slc.quantiserScale * (s.seq.intraQ.getD j 0).toNat) / 16
      else ((2 * v.natAbs + 1) * s.slc.quantiserScale * (s.seq.nonIntraQ.getD j 0).toNat) / 32
    (64 ≤ idx →
      exec (e run level) s = .next (takeCorrupt .coefIndexOverflow
        { s.consume 24 with mb := { s.mb with coefIdx := idx } })) ∧
    (idx < 64 →
      exec (e run level) s = .next { s.consume 24 with
        ctx := .coef i false,
        mb := { s.mb with
          coefIdx := idx,
          blk := s.mb.blk.set i.val ((s.mb.blk.getD i.val []).set j (if v < 0 then -(mag : Int) else mag)) } })

/-- R244, R446, R381: an end of block applies coefficient control and makes the next coded block due. `ctx` is the
model's (log entry 1). -/
def Obligations.EndOfBlock : Prop :=
  ∀ e ∈ [(Instr.DCT0_EOB, 2), (Instr.DCT1_EOB, 4)],
  ∀ (s : State) (i k : Fin 6) (first : Bool),
    s.ctx = .coef i first → i.val < k.val → s.mb.cbp.getLsbD (5 - k.val) = true →
    (∀ j : Fin 6, i.val < j.val → j.val < k.val → s.mb.cbp.getLsbD (5 - j.val) = false) →
    let blk :=
      if s.cfg.coefControl = .iso then s.mb.blk.set i.val (coefControlIso (s.mb.blk.getD i.val [])) else s.mb.blk
    (s.mb.mbType.i = true →
      exec e.1 s = .next { s.consume e.2 with ctx := .dcSize k, mb := { s.mb with blk := blk } }) ∧
    (s.mb.mbType.i = false →
      exec e.1 s = .next { s.consume e.2 with
        ctx := .coef k true, mb := { s.mb with blk := blk, coefIdx := -1 } })

/-- R381: coefficient control under `iso` saturates every coefficient to -2048..2047, leaves the sum of the block odd, and moves
only the last coefficient for that, by one. -/
def Obligations.CoefficientControl : Prop :=
  ∀ b : List Int, b.length = 64 →
    (coefControlIso b).length = 64 ∧ (coefControlIso b).sum % 2 = 1 ∧
    (∀ v ∈ coefControlIso b, -2048 ≤ v ∧ v ≤ 2047) ∧
    (∀ j, j < 63 → (coefControlIso b).getD j 0 = max (-2048) (min 2047 (b.getD j 0))) ∧
    ((coefControlIso b).getD 63 0 - max (-2048) (min 2047 (b.getD 63 0))).natAbs ≤ 1

/-- R390: the DC round trip: for every differential of magnitude 1 to 2047 the bits of its size class decode to it. -/
def Obligations.DcRoundTrip : Prop :=
  ∀ d : Int, d ≠ 0 → d.natAbs ≤ 2047 →
    let size := Nat.size d.natAbs
    let v : Nat := (if 0 ≤ d then d else d + 2 ^ size - 1).toNat
    1 ≤ size ∧ size ≤ 11 ∧ v < 2 ^ size ∧ (2 ^ (size - 1) ≤ v ↔ 0 < d) ∧ dcValue size v = d

/-- R441: from a predictor in range the vector is in range, and equals predictor plus delta modulo `2 * lim`. -/
def Obligations.VectorWrapsIntoRange : Prop :=
  ∀ (pred code : Int) (res rs : Nat),
    let lim : Int := 16 * 2 ^ rs
    let delta : Int :=
      if code = 0 then 0
      else if 0 < code then (code - 1) * 2 ^ rs + res + 1
      else -((-code - 1) * 2 ^ rs + res + 1)
    0 ≤ pred + lim → pred < lim → -16 ≤ code → code ≤ 16 → res < 2 ^ rs →
    -lim ≤ decodeVector pred code res rs false ∧ decodeVector pred code res rs false < lim ∧
    (2 * lim) ∣ decodeVector pred code res rs false - (pred + delta)

-- ================================================================ the inverse transforms

/-- R501 to R505: either transform gives 64 residuals in -256..255, zero for the zero block and `d / 8` everywhere for a block
whose only coefficient is a first one `d`, a multiple of 8 of magnitude at most 2040. For the reference transform any
such `d` is divided by 8, rounded half away from zero and clamped, which R504 itself derives from R501. `SRC_IDCT` has
free constants, and the model gives it these values on the zero and DC-only blocks and clamps it to this range because
R503, R504 and R505 demand them (log entry 9, DEDUCED; R502 names only R503 and R504 for it). -/
def Obligations.InverseTransformProperties : Prop :=
  ∀ (k : IdctKind) (b : List Int), b.length = 64 →
    (idct k b).length = 64 ∧ (∀ v ∈ idct k b, -256 ≤ v ∧ v ≤ 255) ∧
    (b = List.replicate 64 0 → idct k b = List.replicate 64 0) ∧
    (∀ d : Int, b = d :: List.replicate 63 0 → d % 8 = 0 → d.natAbs ≤ 2040 → idct k b = List.replicate 64 (d / 8)) ∧
    (∀ d : Int, b = d :: List.replicate 63 0 →
      refIdct b = List.replicate 64 (max (-256) (min 255 (d.sign * (((d.natAbs + 4) / 8 : Nat) : Int)))))

/-- R501: the exact arithmetic of `refIdct` is the real-valued reference transform: at column x and row y, the sum over all
coefficients with its cosines, rounded half away from zero and clamped to -256..255. -/
def Obligations.ReferenceTransformIsExact : Prop :=
  ∀ (b : List Int) (x y : Nat), b.length = 64 → x < 8 → y < 8 →
    let c (k : Nat) : ℝ := if k = 0 then 1 / Real.sqrt 2 else 1
    let sum : ℝ :=
      ∑ u ∈ Finset.range 8, ∑ v ∈ Finset.range 8,
        (c u * c v / 4) * ((b.getD (8 * v + u) 0 : Int) : ℝ) *
          Real.cos ((2 * x + 1) * u * Real.pi / 16) * Real.cos ((2 * y + 1) * v * Real.pi / 16)
    let rounded : Int := if 0 ≤ sum then ⌊sum + 1 / 2⌋ else -⌊-sum + 1 / 2⌋
    (refIdct b).getD (8 * y + x) 0 = max (-256) (min 255 rounded)

-- ================================================================ prediction and reconstruction

/-- R108, R540: a plane read outside the plane stops as RefOutOfRange and one of an unwritten sample as UnwrittenSample.
R107: row `y` of field `f` is frame row `2 y + f`, and a field has half the plane's rows. R535: in frame rows or in the
rows of one field, the four interpolations, each rounding up, read the samples they name and no other; a block has one
sample for each place of its `w` columns and `h` rows, at the vector's whole part from its origin, by the vector's
half flags; a block of a field goes to the rows of its destination field. R539: two directions are averaged, rounding
up. -/
def Obligations.PredictionSamples : Prop :=
  (∀ (s : State) (b : Fin 3) (c : Plane) (x y : Int),
    let inside := 0 ≤ x ∧ x < s.planeWidth c ∧ 0 ≤ y ∧ y < s.planeHeight c
    (¬ inside → s.planeRead b c x y = .error .refOutOfRange) ∧
    (inside → s.sample b c x.toNat y.toNat = none → s.planeRead b c x y = .error .unwrittenSample) ∧
    (∀ v, inside → s.sample b c x.toNat y.toNat = some v → s.planeRead b c x y = .ok v.toNat)) ∧
  (∀ (s : State) (c : Plane) (f : Bool) (y : Int), s.inst.allocated = some (s.width, s.height) →
    PredMode.frame.row y = y ∧ (PredMode.field f).row y = 2 * y + (if f then 1 else 0) ∧
    (0 ≤ (PredMode.field f).row y ∧ (PredMode.field f).row y < s.planeHeight c ↔
      0 ≤ y ∧ y < ((s.planeHeight c / 2 : Nat) : Int))) ∧
  (∀ (s : State) (ref : Fin 3) (c : Plane) (m : PredMode) (x y : Int) (p q u v : Nat),
    let rd (a b : Int) : Except ReadFault Nat := s.planeRead ref c a (m.row b)
    (rd x y = .ok p → s.predSample ref c m x y false false = .ok p) ∧
    (rd x y = .ok p → rd (x + 1) y = .ok q → s.predSample ref c m x y true false = .ok ((p + q + 1) / 2)) ∧
    (rd x y = .ok p → rd x (y + 1) = .ok q → s.predSample ref c m x y false true = .ok ((p + q + 1) / 2)) ∧
    (rd x y = .ok p → rd (x + 1) y = .ok q → rd x (y + 1) = .ok u → rd (x + 1) (y + 1) = .ok v →
      s.predSample ref c m x y true true = .ok ((p + q + u + v + 2) / 4)) ∧
    (∀ (hx hy : Bool) (e : ReadFault), s.predSample ref c m x y hx hy = .error e →
      ∃ i j : Nat, i ≤ hx.toNat ∧ j ≤ hy.toNat ∧ rd (x + i) (y + j) = .error e)) ∧
  (∀ (s : State) (ref : Fin 3) (c : Plane) (w h bx by_ : Nat) (vx vy : Int) (m : PredMode),
    let place (xx yy : Nat) : Except ReadFault Nat :=
      s.predSample ref c m (bx + xx + vx / 2) (by_ + yy + vy / 2) (decide (vx % 2 = 1)) (decide (vy % 2 = 1))
    (∀ l, s.predBlock ref c w h bx by_ vx vy m = .ok l →
      l.length = w * h ∧ ∀ xx yy, xx < w → yy < h → place xx yy = .ok (l.getD (yy * w + xx) 0)) ∧
    (∀ e, s.predBlock ref c w h bx by_ vx vy m = .error e → ∃ xx yy, xx < w ∧ yy < h ∧ place xx yy = .error e)) ∧
  (∀ (a b : Triple (List Nat)) (c : Plane) (yy col : Nat),
    let i := yy * mbPlaneWidth c + col
    (DirPred.frame a).sample c yy col = (a.get c).getD i 0 ∧
    (DirPred.fields a b).sample c (2 * yy) col = (a.get c).getD i 0 ∧
    (DirPred.fields a b).sample c (2 * yy + 1) col = (b.get c).getD i 0) ∧
  (∀ (a b : DirPred) (c : Plane) (row col : Nat),
    predAt (some a, none) c row col = a.sample c row col ∧ predAt (none, some b) c row col = b.sample c row col ∧
    predAt (some a, some b) c row col = (a.sample c row col + b.sample c row col + 1) / 2)

/-- R545, R546: reconstruction replaces every coded block by its inverse transform and writes every sample of the macroblock as
the clipped sum of prediction and residual, at its frame or field DCT position; no other sample and no other register
changes. -/
def Obligations.ReconstructionWritesMacroblock : Prop :=
  ∀ (s : State) (p : Option DirPred × Option DirPred),
    s.inst.allocated = some (s.width, s.height) → s.slc.mba < s.mbCount → s.mb.blk.length = 6 → s.prediction = .ok p →
    let res (i : Fin 6) : List Int :=
      if s.mb.cbp.getLsbD (5 - i.val) then idct s.cfg.idct (s.mb.blk.getD i.val []) else s.mb.blk.getD i.val []
    ∃ m : Memory,
      s.reconstruct = .go { s with
        inst := { s.inst with fb := m }, mb := { s.mb with blk := [res 0, res 1, res 2, res 3, res 4, res 5] } } ∧
      (∀ (i : Fin 6) (x y : Nat), x < 8 → y < 8 →
        let c : Plane := if i.val < 4 then .y else if i.val = 4 then .cb else .cr
        let row := if i.val < 4 then (if s.mb.dctType then i.val / 2 + 2 * y else 8 * (i.val / 2) + y) else y
        let col := if i.val < 4 then 8 * (i.val % 2) + x else x
        m.read (s.mbAddr s.inst.curIdx s.slc.mba c row col) =
          some (BitVec.ofNat 8 (max 0 (min 255 ((predAt p c row col : Int) + (res i).getD (8 * y + x) 0))).toNat)) ∧
      (∀ n, s.OutsideMb s.inst.curIdx s.slc.mba n → m.read n = s.inst.fb.read n)

/-- R454, R545, R546, R450, R451, R530, R540, R616, R613: the end of the last coded block, and a pattern of no coded
block, end the macroblock, of any type: the DC predictors are reset unless it is intra, the vector predictors where R451
says, and the macroblock is written as the clipped sum of its prediction and the transformed blocks, or the prediction's
fault ends the run (`State.MacroblockEnds`); then R610 goes on. An intra macroblock has no prediction: it is written as
its blocks alone. `ctx` is the model's (log entry 1), and so is `mbaInc`, 0 where the next increment is due and as it
was elsewhere (log entry 12, DEDUCED). The value a register keeps where the spec gives it none (outside a slice, a
macroblock or a command) is the model's (log entry 24, DESIGN CHOICE). -/
def Obligations.LastBlockEndsMacroblock : Prop :=
  (∀ e ∈ [(Instr.DCT0_EOB, 2), (Instr.DCT1_EOB, 4)],
    ∀ (s : State) (k : Fin 6) (first : Bool),
      s.ctx = .coef k first → (∀ j : Fin 6, k.val < j.val → s.mb.cbp.getLsbD (5 - j.val) = false) →
      let blk :=
        if s.cfg.coefControl = .iso then s.mb.blk.set k.val (coefControlIso (s.mb.blk.getD k.val [])) else s.mb.blk
      State.MacroblockEnds { s.consume e.2 with mb := { s.mb with blk := blk } } (exec e.1 s)) ∧
  (∀ s : State, s.ctx = .cbp →
    State.MacroblockEnds { s.consume 9 with mb := { s.mb with cbp := 0 } } (exec .CBP_0 s)) ∧
  (∀ s : State, s.mb.mbType.i = true →
    s.afterResets.prediction = .ok (none, none) ∧ ∀ c row col, predAt (none, none) c row col = 0)

/-- R547 (the spec's own inference from R535 and R545), R445, R450, R451, R537: a P macroblock with an empty pattern and
a zero forward vector in frame motion, or with no forward motion at all, is left equal to the co-located macroblock of
the forward reference. `ctx` is the model's (log entry 1), and so is `mbaInc`, 0 where the next increment is due and as
it was elsewhere (log entry 12, DEDUCED). The value a register keeps where the spec gives it none (outside a slice, a
macroblock or a command) is the model's (log entry 24, DESIGN CHOICE). -/
def Obligations.ZeroMotionCopies : Prop :=
  ∀ s : State, s.ctx = .cbp → s.pic.picture_coding_type = 2 → s.mb.mbType.i = false → s.mb.mbType.b = false →
    (s.mb.mbType.f = true → s.mb.motionType = .frame ∧ s.slc.pmv.p0.p0 = ⟨0, 0⟩) →
    s.mb.blk = List.replicate 6 (List.replicate 64 0) →
    s.inst.allocated = some (s.width, s.height) → s.slc.mba < s.mbCount → s.MbWritten s.inst.fwdIdx s.slc.mba →
    let dc : Int := 2 ^ (7 + s.pic.intra_dc_precision.toNat)
    let next := (s.consume 9).ctxAfterMb
    let modes : MacroblockRegs :=
      if s.mb.mbType.f then s.mb
      else { s.mb with motionType := .frame, mvCount := 1, mvFormat := .frame, mvScale := false }
    ∃ m : Memory,
      exec .CBP_0 s = .next { s.consume 9 with
        ctx := next, inst := { s.inst with fb := m },
        slc := { s.slc with
          mbaInc := if next = .mba false then 0 else s.slc.mbaInc, dcPred := ⟨dc, dc, dc⟩,
          pmv :=
            if s.mb.mbType.f then s.slc.pmv
            else ⟨⟨⟨0, 0⟩, s.slc.pmv.p0.p1⟩, ⟨⟨0, 0⟩, s.slc.pmv.p1.p1⟩⟩ },
        mb := { modes with cbp := 0, prevMbType := s.mb.mbType } } ∧
      (∀ c row col, row < mbPlaneWidth c → col < mbPlaneWidth c →
        m.read (s.mbAddr s.inst.curIdx s.slc.mba c row col) = s.mbSample s.inst.fwdIdx s.slc.mba c row col) ∧
      (∀ n, s.OutsideMb s.inst.curIdx s.slc.mba n → m.read n = s.inst.fb.read n)

-- ================================================================ host commands

/-- R620: `lookup` answers none exactly when every slot is invalid, else the slot with the nearest timestamp, the lowest of equals. -/
def Obligations.LookupFindsNearest : Prop :=
  ∀ (s : State) (q : BitVec 64),
    let dist (x : Slot) : Nat := ((x.pts.toNat : Int) - q.toNat).natAbs
    (s.lookup q = none ↔ ∀ x ∈ s.inst.ring, x.pts = 0) ∧
    (∀ k, s.lookup q = some k →
      ∃ x, s.inst.ring[k]? = some x ∧ x.pts ≠ 0 ∧
        ∀ (j : Nat) (y : Slot), s.inst.ring[j]? = some y → y.pts ≠ 0 →
          dist x ≤ dist y ∧ (j < k → dist x < dist y))

/-- R590, R596, R620, R621, R675, R687, R710: the idle core takes the oldest host command: `create` resets every
register (those R711 leaves unwritten to the values of log entry 3, DESIGN CHOICE), `decode` starts at bit 0 with an
empty log or, after a failed allocation, returns at once; lookups and slot reads answer and write nothing else; with no
command nothing happens. At `decode` the slice and macroblock registers hold no value (R596); that they keep their last
ones is the model's (log entry 24, DESIGN CHOICE). The queues are the model's own (log entry 2), and so is the number
`cmdNo` of the decode command (log entry 5). R621 says only that the host may not read a slot outside the ring or a
position outside the plane: the refusal `illegalHostRead` there is the model's (log entry 15, DEDUCED). -/
def Obligations.HostCommands : Prop :=
  ∀ s : State, s.ctx = .idle →
    (s.inbox = [] → step s = .next s) ∧
    (∀ rest, s.inbox = .create :: rest →
      step s = .next { State.resetWith s.cfg with
        cmd := { CommandState.reset with cmdNo := s.cmd.cmdNo }, inbox := rest, outbox := s.outbox ++ [.created] }) ∧
    (∀ buf pts rest, s.inbox = .decode buf pts :: rest →
      let cmd : CommandState :=
        { s.cmd with cmdNo := s.cmd.cmdNo + 1, pkt := buf, bp := 0, pts := pts, errLog := [] }
      (s.inst.phase ≠ .failed →
        step s = .next { s with
          ctx := .startCode .top, inbox := rest, cmd := cmd,
          inst := { s.inst with
            phase := if s.inst.phase = .pictureComplete then .awaitPictureStart else s.inst.phase } }) ∧
      (s.inst.phase = .failed →
        step s = .next { s with
          inbox := rest, outbox := s.outbox ++ [.decoded false 0 []],
          cmd := { cmd with ok := false, consumed := 0 } })) ∧
    (∀ q rest, s.inbox = .lookup q :: rest →
      step s = .next { s with inbox := rest, outbox := s.outbox ++ [.slot (s.lookup q)] }) ∧
    (∀ k x rest, s.inbox = .slotRead k :: rest → s.inst.ring[k]? = some x →
      step s = .next { s with inbox := rest, outbox := s.outbox ++ [.slotFields x] }) ∧
    (∀ k c x y rest, s.inst.ring[k]? = none →
      (s.inbox = .slotRead k :: rest → step s = .refused .illegalHostRead) ∧
      (s.inbox = .slotSample k c x y :: rest → step s = .refused .illegalHostRead)) ∧
    (∀ k c x y slot rest, s.inbox = .slotSample k c x y :: rest → s.inst.ring[k]? = some slot →
      (x < s.planeWidth c → y < s.planeHeight c →
        step s = .next { s with inbox := rest, outbox := s.outbox ++ [.sample (s.sample slot.bufIdx c x y)] }) ∧
      (¬ (x < s.planeWidth c ∧ y < s.planeHeight c) → step s = .refused .illegalHostRead))

-- ================================================================ invariants

/-- The core right after reset is legal and idle (R710, R711). Registers the spec leaves unwritten hold the values of
log entry 3, and `P_RING_N` is 4 (log entry 4). -/
def Obligations.ResetIsLegal : Prop := State.reset.Inv

/-- R34, R44, R53, R54, R37, R51, R431, R602, R662: every step from a legal state that answers a next state answers a
legal one. `ctx` is the model's (log entry 1), and so are the values of registers at `create` and of `curIdx` after an
allocation (log entry 3, DESIGN CHOICE). The value a register keeps where the spec gives it none (outside a slice, a
macroblock or a command) is the model's (log entry 24, DESIGN CHOICE). -/
def Obligations.StepKeepsInvariant : Prop := ∀ s t : State, s.Inv → step s = .next t → t.Inv

/-- R672, the spec's own inference that no bitstream reaches Fault(Unwritten): from a legal state no step answers it. In the
model every register holds a value (log entry 3), and the fault guards the frame buffers alone: it is raised where none
of the current geometry exists or `mba` is off the grid (log entry 20, DEDUCED). -/
def Obligations.NeverUnwritten : Prop := ∀ s t : State, s.Inv → step s ≠ .fault (.unwritten t)

/-- R531, R602, R725: in a picture the prediction of a macroblock does not depend on any sample of the buffer it is written to. -/
def Obligations.PredictionIgnoresCurrentBuffer : Prop :=
  ∀ (s : State) (m : Memory), s.Legal → s.inst.phase = .decodingSlices → s.typeOk s.mb.mbType →
    (∀ b c x y, b ≠ s.inst.curIdx → x < s.planeWidth c → y < s.planeHeight c →
      m.read (s.addr b c x y) = s.sample b c x y) →
    ({ s with inst := { s.inst with fb := m } } : State).prediction = s.prediction

/-- R34, R675: a failed allocation is final: from a legal state in phase `Failed` no step but a `create` command
leaves the phase. The queue of commands is the model's (log entry 2). -/
def Obligations.FailedIsFinal : Prop :=
  ∀ s t : State, s.Inv → s.inst.phase = .failed → s.inbox.head? ≠ some .create → step s = .next t →
    t.inst.phase = .failed

-- ================================================================ frames

/-- R30, R31, R206, R113, R667, R673: whatever an instruction does, the parameters, the packet buffer, its timestamp and
the host's queue stay, the log and the answers only grow, and the cursor does not go back but to the end of the buffer.
R31 says that it only ever increases; a start-code search that begins past the end of the buffer moves it back there
(R206), and the model follows R206 (log entry 17, DEDUCED). A stop leaves all of these, with nothing logged or answered
and every sample written before it still written (R673; that the stop carries this state is the model's, log entry 14).
The value a register keeps where the spec gives it none (outside a slice, a macroblock or a command) is the model's (log
entry 24, DESIGN CHOICE). -/
def Obligations.CommandStateFrame : Prop :=
  (∀ (i : Instr) (s t : State), exec i s = .next t →
    t.cfg = s.cfg ∧ t.inbox = s.inbox ∧ t.cmd.pkt = s.cmd.pkt ∧ t.cmd.pts = s.cmd.pts ∧ t.cmd.cmdNo = s.cmd.cmdNo ∧
    (∃ l, t.cmd.errLog = s.cmd.errLog ++ l) ∧ (∃ l, t.outbox = s.outbox ++ l) ∧
    (s.cmd.bp ≤ t.cmd.bp ∨ t.cmd.bp = 8 * s.bufLen)) ∧
  (∀ (i : Instr) (s t : State), StopsWith (exec i s) t →
    t.cfg = s.cfg ∧ t.inbox = s.inbox ∧ t.cmd.pkt = s.cmd.pkt ∧ t.cmd.pts = s.cmd.pts ∧ t.cmd.cmdNo = s.cmd.cmdNo ∧
    t.cmd.errLog = s.cmd.errLog ∧ t.outbox = s.outbox ∧ s.cmd.bp ≤ t.cmd.bp ∧
    ∀ n, (s.inst.fb.read n).isSome → (t.inst.fb.read n).isSome)

/-- R52, R303, R310, R320, R330, R340, R592, R597: start codes, extensions and headers but the sequence header leave
every sample, every macroblock register but the slice's reset of `prevMbType`, and all slice registers but those of a
slice start as they were. The value a register keeps where the spec gives it none (outside a slice, a macroblock or a
command) is the model's (log entry 24, DESIGN CHOICE). -/
def Obligations.HeaderFrame : Prop :=
  ∀ (i : Instr) (s t : State) (c : DecCtx),
    c ∈ [DecCtx.startCode, .extId, .seqExt, .quantMatrix, .picCodingExt, .gop, .picHeader, .sliceHeader] →
    i.inCtx c = true → exec i s = .next t →
    t.inst.fb = s.inst.fb ∧ t.inst.allocated = s.inst.allocated ∧ t.inst.auxIdx = s.inst.auxIdx ∧
    t.slc.mba = s.slc.mba ∧ (c ≠ .sliceHeader → t.mb = s.mb ∧ { t.slc with sliceRow := s.slc.sliceRow } = s.slc) ∧
    { t.mb with prevMbType := s.mb.prevMbType } = s.mb ∧
    (c ≠ .startCode → t.inst = s.inst ∧ t.outbox = s.outbox) ∧
    (c ≠ .seqExt → c ≠ .quantMatrix → t.seq = s.seq) ∧
    (c ≠ .startCode → c ≠ .picCodingExt → c ≠ .picHeader → t.pic = s.pic)

/-- R454, R453, R531: the elements of a macroblock, from its type to its last block, leave the sequence and picture
registers, the instance registers, the address and the slice row; of the samples only those of the macroblock at `mba`
in the current buffer may change. The value a register keeps where the spec gives it none (outside a slice, a macroblock
or a command) is the model's (log entry 24, DESIGN CHOICE). -/
def Obligations.MacroblockFrame : Prop :=
  ∀ (i : Instr) (s t : State) (c : DecCtx),
    c ∈ [DecCtx.mbTypeI, .mbTypeP, .mbTypeB, .frameMotionType, .dctType, .mbQuant, .fieldSelect, .mv, .marker, .cbp, .dcl,
      .dcc, .dct0, .dct0First, .dct1] ∨ (∃ n, c = .dcDiff n) →
    i.inCtx c = true → exec i s = .next t →
    t.seq = s.seq ∧ t.pic = s.pic ∧ t.outbox = s.outbox ∧ { t.inst with fb := s.inst.fb } = s.inst ∧
    t.slc.mba = s.slc.mba ∧ t.slc.sliceRow = s.slc.sliceRow ∧
    (c ≠ .mbQuant → t.slc.quantiser_scale_code = s.slc.quantiser_scale_code ∧
      t.slc.quantiserScale = s.slc.quantiserScale) ∧
    (c ≠ .fieldSelect → t.slc.mvfs = s.slc.mvfs) ∧
    (∀ n, s.OutsideMb s.inst.curIdx s.slc.mba n → t.inst.fb.read n = s.inst.fb.read n)

/-- R611, R614, R452: an address increment leaves the sequence and picture registers, the instance registers, the quantiser, the field
selects and the backward vectors; of the samples only those of the skipped macroblocks in the current buffer may
change, and none at the first increment of a slice. An increment stops only with a fault, at one of the skipped
macroblocks, whose address `mba` then holds: its prediction is not formed, for the reason the fault names, or the frame
buffers have not the current geometry (log entry 20, DEDUCED). Those before it are written (R673; log entry 14,
DEDUCED). `ctx` is the model's (log entry 1), and so is `mbaInc`, the increment read so far, which bounds the skipped
addresses (log entry 12, DEDUCED). -/
def Obligations.AddressFrame : Prop :=
  ∀ r ∈ mbaRows, ∀ s t : State,
    (StopsWith (exec r.1 s) t →
      s.slc.mba < t.slc.mba ∧ t.slc.mba < s.slc.mba + (s.slc.mbaInc + r.2.2) ∧
      ((∃ e, t.prediction = .error e ∧ exec r.1 s = .fault (e.raise t)) ∨
        (t.inst.allocated ≠ some (t.width, t.height) ∧ exec r.1 s = .fault (.unwritten t))) ∧
      ∀ a, s.slc.mba < a → a < t.slc.mba → t.MbWritten t.inst.curIdx a) ∧
    (exec r.1 s = .next t →
      t.seq = s.seq ∧ t.pic = s.pic ∧ t.outbox = s.outbox ∧ { t.inst with fb := s.inst.fb } = s.inst ∧
      t.slc.quantiser_scale_code = s.slc.quantiser_scale_code ∧ t.slc.quantiserScale = s.slc.quantiserScale ∧
      t.slc.mvfs = s.slc.mvfs ∧ t.slc.sliceRow = s.slc.sliceRow ∧
      t.slc.pmv.p0.p1 = s.slc.pmv.p0.p1 ∧ t.slc.pmv.p1.p1 = s.slc.pmv.p1.p1 ∧
      (s.ctx = .mba true → t.inst.fb = s.inst.fb) ∧
      (∀ n, (∀ a, s.slc.mba < a → a < s.slc.mba + (s.slc.mbaInc + r.2.2) → s.OutsideMb s.inst.curIdx a n) →
        t.inst.fb.read n = s.inst.fb.read n))

-- ================================================================ the samples a vector chooses

/-- R533, R534, R535, R536, R538: every sample of a direction's prediction is the interpolation its vector chooses: in frame
motion with vector 0, in field motion with vector `r` for the rows of field `r`, from the reference field of that
vector, in field rows, the vertical component halved; a chroma component is the luma one divided by 2 toward zero. Where
the direction has no prediction, one of these samples has none, for the same reason. R530, R531, R532, R537: an intra
macroblock has no prediction; any other is predicted forward, from buffer `fwdIdx`, with a forward direction or in a P
picture, and backward, from `bwdIdx`, with a backward direction, the forward one first. -/
def Obligations.PredictionFollowsVectors : Prop :=
  (∀ (s : State) (d : Bool) (ref : Fin 3),
    let v (r t : Bool) : Int := ((s.slc.pmv.get r).get d).get t
    let part (c : Plane) (x : Int) : Int := if c = .y then x else x.tdiv 2
    let place (c : Plane) (row col : Nat) : Except ReadFault Nat :=
      let n := mbPlaneWidth c
      let x0 : Nat := n * (s.slc.mba % s.mbWidth) + col
      if s.mb.motionType = .frame then
        let vx := part c (v false false)
        let vy := part c (v false true)
        let y0 : Nat := n * (s.slc.mba / s.mbWidth) + row
        s.predSample ref c .frame (x0 + vx / 2) (y0 + vy / 2) (decide (vx % 2 = 1)) (decide (vy % 2 = 1))
      else
        let r := decide (row % 2 = 1)
        let vx := part c (v r false)
        let vy := part c (v r true / 2)
        let y0 : Nat := n / 2 * (s.slc.mba / s.mbWidth) + row / 2
        s.predSample ref c (.field ((s.slc.mvfs.get r).get d)) (x0 + vx / 2) (y0 + vy / 2) (decide (vx % 2 = 1))
          (decide (vy % 2 = 1))
    (∀ p, s.predictDirection d ref = .ok p →
      ∀ c row col, row < mbPlaneWidth c → col < mbPlaneWidth c → place c row col = .ok (p.sample c row col)) ∧
    (∀ e, s.predictDirection d ref = .error e →
      ∃ c row col, row < mbPlaneWidth c ∧ col < mbPlaneWidth c ∧ place c row col = .error e)) ∧
  (∀ s : State,
    let forward := s.predictDirection false s.inst.fwdIdx
    let backward := s.predictDirection true s.inst.bwdIdx
    let isForward := s.mb.mbType.f = true ∨ s.pic.picture_coding_type = 2
    (s.mb.mbType.i = true → s.prediction = .ok (none, none)) ∧
    (s.mb.mbType.i = false → isForward →
      (∀ e, forward = .error e → s.prediction = .error e) ∧
      (∀ p, forward = .ok p → s.mb.mbType.b = false → s.prediction = .ok (some p, none)) ∧
      (∀ p e, forward = .ok p → s.mb.mbType.b = true → backward = .error e → s.prediction = .error e) ∧
      (∀ p q, forward = .ok p → s.mb.mbType.b = true → backward = .ok q → s.prediction = .ok (some p, some q))) ∧
    (s.mb.mbType.i = false → ¬ isForward →
      (∀ e, s.mb.mbType.b = true → backward = .error e → s.prediction = .error e) ∧
      (∀ q, s.mb.mbType.b = true → backward = .ok q → s.prediction = .ok (none, some q)) ∧
      (s.mb.mbType.b = false → s.prediction = .ok (none, none))))

end Statements
end

