-- ==== Sys2Proof/Laws/State.lean ====
section
/-! SUPPORT. One lemma for each field and update of State: what the update writes, and that it writes nothing else. -/

namespace Sys2Proof.Machine

@[simp] theorem State.onInst_cfg (s : State) (f : InstanceState → InstanceState) : (s.onInst f).cfg = s.cfg := rfl
@[simp] theorem State.onInst_ctx (s : State) (f : InstanceState → InstanceState) : (s.onInst f).ctx = s.ctx := rfl
@[simp] theorem State.onInst_inst (s : State) (f : InstanceState → InstanceState) : (s.onInst f).inst = f s.inst := rfl
@[simp] theorem State.onInst_seq (s : State) (f : InstanceState → InstanceState) : (s.onInst f).seq = s.seq := rfl
@[simp] theorem State.onInst_pic (s : State) (f : InstanceState → InstanceState) : (s.onInst f).pic = s.pic := rfl
@[simp] theorem State.onInst_slc (s : State) (f : InstanceState → InstanceState) : (s.onInst f).slc = s.slc := rfl
@[simp] theorem State.onInst_mb (s : State) (f : InstanceState → InstanceState) : (s.onInst f).mb = s.mb := rfl
@[simp] theorem State.onInst_cmd (s : State) (f : InstanceState → InstanceState) : (s.onInst f).cmd = s.cmd := rfl
@[simp] theorem State.onInst_inbox (s : State) (f : InstanceState → InstanceState) : (s.onInst f).inbox = s.inbox := rfl
@[simp] theorem State.onInst_outbox (s : State) (f : InstanceState → InstanceState) :
    (s.onInst f).outbox = s.outbox := rfl

@[simp] theorem State.onSeq_cfg (s : State) (f : SequenceRegs → SequenceRegs) : (s.onSeq f).cfg = s.cfg := rfl
@[simp] theorem State.onSeq_ctx (s : State) (f : SequenceRegs → SequenceRegs) : (s.onSeq f).ctx = s.ctx := rfl
@[simp] theorem State.onSeq_inst (s : State) (f : SequenceRegs → SequenceRegs) : (s.onSeq f).inst = s.inst := rfl
@[simp] theorem State.onSeq_seq (s : State) (f : SequenceRegs → SequenceRegs) : (s.onSeq f).seq = f s.seq := rfl
@[simp] theorem State.onSeq_pic (s : State) (f : SequenceRegs → SequenceRegs) : (s.onSeq f).pic = s.pic := rfl
@[simp] theorem State.onSeq_slc (s : State) (f : SequenceRegs → SequenceRegs) : (s.onSeq f).slc = s.slc := rfl
@[simp] theorem State.onSeq_mb (s : State) (f : SequenceRegs → SequenceRegs) : (s.onSeq f).mb = s.mb := rfl
@[simp] theorem State.onSeq_cmd (s : State) (f : SequenceRegs → SequenceRegs) : (s.onSeq f).cmd = s.cmd := rfl
@[simp] theorem State.onSeq_inbox (s : State) (f : SequenceRegs → SequenceRegs) : (s.onSeq f).inbox = s.inbox := rfl
@[simp] theorem State.onSeq_outbox (s : State) (f : SequenceRegs → SequenceRegs) : (s.onSeq f).outbox = s.outbox := rfl

@[simp] theorem State.onPic_cfg (s : State) (f : PictureRegs → PictureRegs) : (s.onPic f).cfg = s.cfg := rfl
@[simp] theorem State.onPic_ctx (s : State) (f : PictureRegs → PictureRegs) : (s.onPic f).ctx = s.ctx := rfl
@[simp] theorem State.onPic_inst (s : State) (f : PictureRegs → PictureRegs) : (s.onPic f).inst = s.inst := rfl
@[simp] theorem State.onPic_seq (s : State) (f : PictureRegs → PictureRegs) : (s.onPic f).seq = s.seq := rfl
@[simp] theorem State.onPic_pic (s : State) (f : PictureRegs → PictureRegs) : (s.onPic f).pic = f s.pic := rfl
@[simp] theorem State.onPic_slc (s : State) (f : PictureRegs → PictureRegs) : (s.onPic f).slc = s.slc := rfl
@[simp] theorem State.onPic_mb (s : State) (f : PictureRegs → PictureRegs) : (s.onPic f).mb = s.mb := rfl
@[simp] theorem State.onPic_cmd (s : State) (f : PictureRegs → PictureRegs) : (s.onPic f).cmd = s.cmd := rfl
@[simp] theorem State.onPic_inbox (s : State) (f : PictureRegs → PictureRegs) : (s.onPic f).inbox = s.inbox := rfl
@[simp] theorem State.onPic_outbox (s : State) (f : PictureRegs → PictureRegs) : (s.onPic f).outbox = s.outbox := rfl

@[simp] theorem State.onSlc_cfg (s : State) (f : SliceRegs → SliceRegs) : (s.onSlc f).cfg = s.cfg := rfl
@[simp] theorem State.onSlc_ctx (s : State) (f : SliceRegs → SliceRegs) : (s.onSlc f).ctx = s.ctx := rfl
@[simp] theorem State.onSlc_inst (s : State) (f : SliceRegs → SliceRegs) : (s.onSlc f).inst = s.inst := rfl
@[simp] theorem State.onSlc_seq (s : State) (f : SliceRegs → SliceRegs) : (s.onSlc f).seq = s.seq := rfl
@[simp] theorem State.onSlc_pic (s : State) (f : SliceRegs → SliceRegs) : (s.onSlc f).pic = s.pic := rfl
@[simp] theorem State.onSlc_slc (s : State) (f : SliceRegs → SliceRegs) : (s.onSlc f).slc = f s.slc := rfl
@[simp] theorem State.onSlc_mb (s : State) (f : SliceRegs → SliceRegs) : (s.onSlc f).mb = s.mb := rfl
@[simp] theorem State.onSlc_cmd (s : State) (f : SliceRegs → SliceRegs) : (s.onSlc f).cmd = s.cmd := rfl
@[simp] theorem State.onSlc_inbox (s : State) (f : SliceRegs → SliceRegs) : (s.onSlc f).inbox = s.inbox := rfl
@[simp] theorem State.onSlc_outbox (s : State) (f : SliceRegs → SliceRegs) : (s.onSlc f).outbox = s.outbox := rfl

@[simp] theorem State.onMb_cfg (s : State) (f : MacroblockRegs → MacroblockRegs) : (s.onMb f).cfg = s.cfg := rfl
@[simp] theorem State.onMb_ctx (s : State) (f : MacroblockRegs → MacroblockRegs) : (s.onMb f).ctx = s.ctx := rfl
@[simp] theorem State.onMb_inst (s : State) (f : MacroblockRegs → MacroblockRegs) : (s.onMb f).inst = s.inst := rfl
@[simp] theorem State.onMb_seq (s : State) (f : MacroblockRegs → MacroblockRegs) : (s.onMb f).seq = s.seq := rfl
@[simp] theorem State.onMb_pic (s : State) (f : MacroblockRegs → MacroblockRegs) : (s.onMb f).pic = s.pic := rfl
@[simp] theorem State.onMb_slc (s : State) (f : MacroblockRegs → MacroblockRegs) : (s.onMb f).slc = s.slc := rfl
@[simp] theorem State.onMb_mb (s : State) (f : MacroblockRegs → MacroblockRegs) : (s.onMb f).mb = f s.mb := rfl
@[simp] theorem State.onMb_cmd (s : State) (f : MacroblockRegs → MacroblockRegs) : (s.onMb f).cmd = s.cmd := rfl
@[simp] theorem State.onMb_inbox (s : State) (f : MacroblockRegs → MacroblockRegs) : (s.onMb f).inbox = s.inbox := rfl
@[simp] theorem State.onMb_outbox (s : State) (f : MacroblockRegs → MacroblockRegs) :
    (s.onMb f).outbox = s.outbox := rfl

@[simp] theorem State.onCmd_cfg (s : State) (f : CommandState → CommandState) : (s.onCmd f).cfg = s.cfg := rfl
@[simp] theorem State.onCmd_ctx (s : State) (f : CommandState → CommandState) : (s.onCmd f).ctx = s.ctx := rfl
@[simp] theorem State.onCmd_inst (s : State) (f : CommandState → CommandState) : (s.onCmd f).inst = s.inst := rfl
@[simp] theorem State.onCmd_seq (s : State) (f : CommandState → CommandState) : (s.onCmd f).seq = s.seq := rfl
@[simp] theorem State.onCmd_pic (s : State) (f : CommandState → CommandState) : (s.onCmd f).pic = s.pic := rfl
@[simp] theorem State.onCmd_slc (s : State) (f : CommandState → CommandState) : (s.onCmd f).slc = s.slc := rfl
@[simp] theorem State.onCmd_mb (s : State) (f : CommandState → CommandState) : (s.onCmd f).mb = s.mb := rfl
@[simp] theorem State.onCmd_cmd (s : State) (f : CommandState → CommandState) : (s.onCmd f).cmd = f s.cmd := rfl
@[simp] theorem State.onCmd_inbox (s : State) (f : CommandState → CommandState) : (s.onCmd f).inbox = s.inbox := rfl
@[simp] theorem State.onCmd_outbox (s : State) (f : CommandState → CommandState) : (s.onCmd f).outbox = s.outbox := rfl

@[simp] theorem State.setCtx_cfg (s : State) (c : Ctx) : (s.setCtx c).cfg = s.cfg := rfl
@[simp] theorem State.setCtx_ctx (s : State) (c : Ctx) : (s.setCtx c).ctx = c := rfl
@[simp] theorem State.setCtx_inst (s : State) (c : Ctx) : (s.setCtx c).inst = s.inst := rfl
@[simp] theorem State.setCtx_seq (s : State) (c : Ctx) : (s.setCtx c).seq = s.seq := rfl
@[simp] theorem State.setCtx_pic (s : State) (c : Ctx) : (s.setCtx c).pic = s.pic := rfl
@[simp] theorem State.setCtx_slc (s : State) (c : Ctx) : (s.setCtx c).slc = s.slc := rfl
@[simp] theorem State.setCtx_mb (s : State) (c : Ctx) : (s.setCtx c).mb = s.mb := rfl
@[simp] theorem State.setCtx_cmd (s : State) (c : Ctx) : (s.setCtx c).cmd = s.cmd := rfl
@[simp] theorem State.setCtx_inbox (s : State) (c : Ctx) : (s.setCtx c).inbox = s.inbox := rfl
@[simp] theorem State.setCtx_outbox (s : State) (c : Ctx) : (s.setCtx c).outbox = s.outbox := rfl

@[simp] theorem State.scan_cfg (s : State) (m : ScanMode) : (s.scan m).cfg = s.cfg := rfl
@[simp] theorem State.scan_ctx (s : State) (m : ScanMode) : (s.scan m).ctx = .startCode m := rfl
@[simp] theorem State.scan_inst (s : State) (m : ScanMode) : (s.scan m).inst = s.inst := rfl
@[simp] theorem State.scan_seq (s : State) (m : ScanMode) : (s.scan m).seq = s.seq := rfl
@[simp] theorem State.scan_pic (s : State) (m : ScanMode) : (s.scan m).pic = s.pic := rfl
@[simp] theorem State.scan_slc (s : State) (m : ScanMode) : (s.scan m).slc = s.slc := rfl
@[simp] theorem State.scan_mb (s : State) (m : ScanMode) : (s.scan m).mb = s.mb := rfl
@[simp] theorem State.scan_cmd (s : State) (m : ScanMode) : (s.scan m).cmd = s.cmd := rfl
@[simp] theorem State.scan_inbox (s : State) (m : ScanMode) : (s.scan m).inbox = s.inbox := rfl
@[simp] theorem State.scan_outbox (s : State) (m : ScanMode) : (s.scan m).outbox = s.outbox := rfl

@[simp] theorem State.setPhase_cfg (s : State) (p : Phase) : (s.setPhase p).cfg = s.cfg := rfl
@[simp] theorem State.setPhase_ctx (s : State) (p : Phase) : (s.setPhase p).ctx = s.ctx := rfl
@[simp] theorem State.setPhase_inst (s : State) (p : Phase) : (s.setPhase p).inst = { s.inst with phase := p } := rfl
@[simp] theorem State.setPhase_seq (s : State) (p : Phase) : (s.setPhase p).seq = s.seq := rfl
@[simp] theorem State.setPhase_pic (s : State) (p : Phase) : (s.setPhase p).pic = s.pic := rfl
@[simp] theorem State.setPhase_slc (s : State) (p : Phase) : (s.setPhase p).slc = s.slc := rfl
@[simp] theorem State.setPhase_mb (s : State) (p : Phase) : (s.setPhase p).mb = s.mb := rfl
@[simp] theorem State.setPhase_cmd (s : State) (p : Phase) : (s.setPhase p).cmd = s.cmd := rfl
@[simp] theorem State.setPhase_inbox (s : State) (p : Phase) : (s.setPhase p).inbox = s.inbox := rfl
@[simp] theorem State.setPhase_outbox (s : State) (p : Phase) : (s.setPhase p).outbox = s.outbox := rfl

@[simp] theorem State.setBp_cfg (s : State) (p : Nat) : (s.setBp p).cfg = s.cfg := rfl
@[simp] theorem State.setBp_ctx (s : State) (p : Nat) : (s.setBp p).ctx = s.ctx := rfl
@[simp] theorem State.setBp_inst (s : State) (p : Nat) : (s.setBp p).inst = s.inst := rfl
@[simp] theorem State.setBp_seq (s : State) (p : Nat) : (s.setBp p).seq = s.seq := rfl
@[simp] theorem State.setBp_pic (s : State) (p : Nat) : (s.setBp p).pic = s.pic := rfl
@[simp] theorem State.setBp_slc (s : State) (p : Nat) : (s.setBp p).slc = s.slc := rfl
@[simp] theorem State.setBp_mb (s : State) (p : Nat) : (s.setBp p).mb = s.mb := rfl
@[simp] theorem State.setBp_cmd (s : State) (p : Nat) : (s.setBp p).cmd = { s.cmd with bp := p } := rfl
@[simp] theorem State.setBp_inbox (s : State) (p : Nat) : (s.setBp p).inbox = s.inbox := rfl
@[simp] theorem State.setBp_outbox (s : State) (p : Nat) : (s.setBp p).outbox = s.outbox := rfl

@[simp] theorem State.consume_cfg (s : State) (n : Nat) : (s.consume n).cfg = s.cfg := rfl
@[simp] theorem State.consume_ctx (s : State) (n : Nat) : (s.consume n).ctx = s.ctx := rfl
@[simp] theorem State.consume_inst (s : State) (n : Nat) : (s.consume n).inst = s.inst := rfl
@[simp] theorem State.consume_seq (s : State) (n : Nat) : (s.consume n).seq = s.seq := rfl
@[simp] theorem State.consume_pic (s : State) (n : Nat) : (s.consume n).pic = s.pic := rfl
@[simp] theorem State.consume_slc (s : State) (n : Nat) : (s.consume n).slc = s.slc := rfl
@[simp] theorem State.consume_mb (s : State) (n : Nat) : (s.consume n).mb = s.mb := rfl
@[simp] theorem State.consume_cmd (s : State) (n : Nat) : (s.consume n).cmd = { s.cmd with bp := s.cmd.bp + n } := rfl
@[simp] theorem State.consume_inbox (s : State) (n : Nat) : (s.consume n).inbox = s.inbox := rfl
@[simp] theorem State.consume_outbox (s : State) (n : Nat) : (s.consume n).outbox = s.outbox := rfl

@[simp] theorem State.log_cfg (s : State) (e : LogEntry) : (s.log e).cfg = s.cfg := rfl
@[simp] theorem State.log_ctx (s : State) (e : LogEntry) : (s.log e).ctx = s.ctx := rfl
@[simp] theorem State.log_inst (s : State) (e : LogEntry) : (s.log e).inst = s.inst := rfl
@[simp] theorem State.log_seq (s : State) (e : LogEntry) : (s.log e).seq = s.seq := rfl
@[simp] theorem State.log_pic (s : State) (e : LogEntry) : (s.log e).pic = s.pic := rfl
@[simp] theorem State.log_slc (s : State) (e : LogEntry) : (s.log e).slc = s.slc := rfl
@[simp] theorem State.log_mb (s : State) (e : LogEntry) : (s.log e).mb = s.mb := rfl
@[simp] theorem State.log_cmd (s : State) (e : LogEntry) :
    (s.log e).cmd = { s.cmd with errLog := s.cmd.errLog ++ [e] } := rfl
@[simp] theorem State.log_inbox (s : State) (e : LogEntry) : (s.log e).inbox = s.inbox := rfl
@[simp] theorem State.log_outbox (s : State) (e : LogEntry) : (s.log e).outbox = s.outbox := rfl

@[simp] theorem State.setCoef_cfg (s : State) (i : Fin 6) (j : Nat) (v : Int) : (s.setCoef i j v).cfg = s.cfg := rfl
@[simp] theorem State.setCoef_ctx (s : State) (i : Fin 6) (j : Nat) (v : Int) : (s.setCoef i j v).ctx = s.ctx := rfl
@[simp] theorem State.setCoef_inst (s : State) (i : Fin 6) (j : Nat) (v : Int) : (s.setCoef i j v).inst = s.inst := rfl
@[simp] theorem State.setCoef_seq (s : State) (i : Fin 6) (j : Nat) (v : Int) : (s.setCoef i j v).seq = s.seq := rfl
@[simp] theorem State.setCoef_pic (s : State) (i : Fin 6) (j : Nat) (v : Int) : (s.setCoef i j v).pic = s.pic := rfl
@[simp] theorem State.setCoef_slc (s : State) (i : Fin 6) (j : Nat) (v : Int) : (s.setCoef i j v).slc = s.slc := rfl
@[simp] theorem State.setCoef_mb (s : State) (i : Fin 6) (j : Nat) (v : Int) :
    (s.setCoef i j v).mb = { s.mb with blk := s.mb.blk.set i.val ((s.mb.blk.getD i.val []).set j v) } := rfl
@[simp] theorem State.setCoef_cmd (s : State) (i : Fin 6) (j : Nat) (v : Int) : (s.setCoef i j v).cmd = s.cmd := rfl
@[simp] theorem State.setCoef_inbox (s : State) (i : Fin 6) (j : Nat) (v : Int) :
    (s.setCoef i j v).inbox = s.inbox := rfl
@[simp] theorem State.setCoef_outbox (s : State) (i : Fin 6) (j : Nat) (v : Int) :
    (s.setCoef i j v).outbox = s.outbox := rfl

@[simp] theorem State.keepType_cfg (s : State) : (s.keepType).cfg = s.cfg := rfl
@[simp] theorem State.keepType_ctx (s : State) : (s.keepType).ctx = s.ctx := rfl
@[simp] theorem State.keepType_inst (s : State) : (s.keepType).inst = s.inst := rfl
@[simp] theorem State.keepType_seq (s : State) : (s.keepType).seq = s.seq := rfl
@[simp] theorem State.keepType_pic (s : State) : (s.keepType).pic = s.pic := rfl
@[simp] theorem State.keepType_slc (s : State) : (s.keepType).slc = s.slc := rfl
@[simp] theorem State.keepType_mb (s : State) : (s.keepType).mb = { s.mb with prevMbType := s.mb.mbType } := rfl
@[simp] theorem State.keepType_cmd (s : State) : (s.keepType).cmd = s.cmd := rfl
@[simp] theorem State.keepType_inbox (s : State) : (s.keepType).inbox = s.inbox := rfl
@[simp] theorem State.keepType_outbox (s : State) : (s.keepType).outbox = s.outbox := rfl

@[simp] theorem State.resetDcPred_cfg (s : State) : (s.resetDcPred).cfg = s.cfg := rfl
@[simp] theorem State.resetDcPred_ctx (s : State) : (s.resetDcPred).ctx = s.ctx := rfl
@[simp] theorem State.resetDcPred_inst (s : State) : (s.resetDcPred).inst = s.inst := rfl
@[simp] theorem State.resetDcPred_seq (s : State) : (s.resetDcPred).seq = s.seq := rfl
@[simp] theorem State.resetDcPred_pic (s : State) : (s.resetDcPred).pic = s.pic := rfl
@[simp] theorem State.resetDcPred_slc (s : State) :
    (s.resetDcPred).slc = { s.slc with dcPred := Triple.const (dcReset s.pic.intra_dc_precision) } := rfl
@[simp] theorem State.resetDcPred_mb (s : State) : (s.resetDcPred).mb = s.mb := rfl
@[simp] theorem State.resetDcPred_cmd (s : State) : (s.resetDcPred).cmd = s.cmd := rfl
@[simp] theorem State.resetDcPred_inbox (s : State) : (s.resetDcPred).inbox = s.inbox := rfl
@[simp] theorem State.resetDcPred_outbox (s : State) : (s.resetDcPred).outbox = s.outbox := rfl

@[simp] theorem State.advance_cfg (s : State) : (s.advance).cfg = s.cfg := rfl
@[simp] theorem State.advance_ctx (s : State) : (s.advance).ctx = s.ctx := rfl
@[simp] theorem State.advance_inst (s : State) : (s.advance).inst = s.inst := rfl
@[simp] theorem State.advance_seq (s : State) : (s.advance).seq = s.seq := rfl
@[simp] theorem State.advance_pic (s : State) : (s.advance).pic = s.pic := rfl
@[simp] theorem State.advance_slc (s : State) :
    (s.advance).slc = { s.slc with mba := s.slc.mba + 1, mbaInc := s.slc.mbaInc - 1 } := rfl
@[simp] theorem State.advance_mb (s : State) : (s.advance).mb = s.mb := rfl
@[simp] theorem State.advance_cmd (s : State) : (s.advance).cmd = s.cmd := rfl
@[simp] theorem State.advance_inbox (s : State) : (s.advance).inbox = s.inbox := rfl
@[simp] theorem State.advance_outbox (s : State) : (s.advance).outbox = s.outbox := rfl

@[simp] theorem State.setQuant_cfg (s : State) (q : BitVec 5) : (s.setQuant q).cfg = s.cfg := rfl
@[simp] theorem State.setQuant_ctx (s : State) (q : BitVec 5) : (s.setQuant q).ctx = s.ctx := rfl
@[simp] theorem State.setQuant_inst (s : State) (q : BitVec 5) : (s.setQuant q).inst = s.inst := rfl
@[simp] theorem State.setQuant_seq (s : State) (q : BitVec 5) : (s.setQuant q).seq = s.seq := rfl
@[simp] theorem State.setQuant_pic (s : State) (q : BitVec 5) : (s.setQuant q).pic = s.pic := rfl
@[simp] theorem State.setQuant_slc (s : State) (q : BitVec 5) :
    (s.setQuant q).slc = { s.slc with quantiser_scale_code := q, quantiserScale := qmap s.pic.q_scale_type q.toNat } := rfl
@[simp] theorem State.setQuant_mb (s : State) (q : BitVec 5) : (s.setQuant q).mb = s.mb := rfl
@[simp] theorem State.setQuant_cmd (s : State) (q : BitVec 5) : (s.setQuant q).cmd = s.cmd := rfl
@[simp] theorem State.setQuant_inbox (s : State) (q : BitVec 5) : (s.setQuant q).inbox = s.inbox := rfl
@[simp] theorem State.setQuant_outbox (s : State) (q : BitVec 5) : (s.setQuant q).outbox = s.outbox := rfl

@[simp] theorem State.reply_cfg (s : State) (r : Reply) : (s.reply r).cfg = s.cfg := rfl
@[simp] theorem State.reply_ctx (s : State) (r : Reply) : (s.reply r).ctx = .idle := rfl
@[simp] theorem State.reply_inst (s : State) (r : Reply) : (s.reply r).inst = s.inst := rfl
@[simp] theorem State.reply_seq (s : State) (r : Reply) : (s.reply r).seq = s.seq := rfl
@[simp] theorem State.reply_pic (s : State) (r : Reply) : (s.reply r).pic = s.pic := rfl
@[simp] theorem State.reply_slc (s : State) (r : Reply) : (s.reply r).slc = s.slc := rfl
@[simp] theorem State.reply_mb (s : State) (r : Reply) : (s.reply r).mb = s.mb := rfl
@[simp] theorem State.reply_cmd (s : State) (r : Reply) : (s.reply r).cmd = s.cmd := rfl
@[simp] theorem State.reply_inbox (s : State) (r : Reply) : (s.reply r).inbox = s.inbox := rfl
@[simp] theorem State.reply_outbox (s : State) (r : Reply) : (s.reply r).outbox = s.outbox ++ [r] := rfl

@[simp] theorem State.finishDecode_cfg (s : State) (ok : Bool) (n : Nat) : (s.finishDecode ok n).cfg = s.cfg := rfl
@[simp] theorem State.finishDecode_ctx (s : State) (ok : Bool) (n : Nat) : (s.finishDecode ok n).ctx = .idle := rfl
@[simp] theorem State.finishDecode_inst (s : State) (ok : Bool) (n : Nat) : (s.finishDecode ok n).inst = s.inst := rfl
@[simp] theorem State.finishDecode_seq (s : State) (ok : Bool) (n : Nat) : (s.finishDecode ok n).seq = s.seq := rfl
@[simp] theorem State.finishDecode_pic (s : State) (ok : Bool) (n : Nat) : (s.finishDecode ok n).pic = s.pic := rfl
@[simp] theorem State.finishDecode_slc (s : State) (ok : Bool) (n : Nat) : (s.finishDecode ok n).slc = s.slc := rfl
@[simp] theorem State.finishDecode_mb (s : State) (ok : Bool) (n : Nat) : (s.finishDecode ok n).mb = s.mb := rfl
@[simp] theorem State.finishDecode_cmd (s : State) (ok : Bool) (n : Nat) :
    (s.finishDecode ok n).cmd = { s.cmd with ok := ok, consumed := n } := rfl
@[simp] theorem State.finishDecode_inbox (s : State) (ok : Bool) (n : Nat) :
    (s.finishDecode ok n).inbox = s.inbox := rfl
@[simp] theorem State.finishDecode_outbox (s : State) (ok : Bool) (n : Nat) :
    (s.finishDecode ok n).outbox = s.outbox ++ [.decoded ok n s.cmd.errLog] := rfl

@[simp] theorem State.startMacroblock_cfg (s : State) : (s.startMacroblock).cfg = s.cfg := rfl
@[simp] theorem State.startMacroblock_ctx (s : State) : (s.startMacroblock).ctx = .mbType := rfl
@[simp] theorem State.startMacroblock_inst (s : State) : (s.startMacroblock).inst = s.inst := rfl
@[simp] theorem State.startMacroblock_seq (s : State) : (s.startMacroblock).seq = s.seq := rfl
@[simp] theorem State.startMacroblock_pic (s : State) : (s.startMacroblock).pic = s.pic := rfl
@[simp] theorem State.startMacroblock_slc (s : State) : (s.startMacroblock).slc = s.slc := rfl
@[simp] theorem State.startMacroblock_mb (s : State) : (s.startMacroblock).mb = { s.mb with blk := zeroBlk } := rfl
@[simp] theorem State.startMacroblock_cmd (s : State) : (s.startMacroblock).cmd = s.cmd := rfl
@[simp] theorem State.startMacroblock_inbox (s : State) : (s.startMacroblock).inbox = s.inbox := rfl
@[simp] theorem State.startMacroblock_outbox (s : State) : (s.startMacroblock).outbox = s.outbox := rfl

@[simp] theorem State.publish_cfg (s : State) : (s.publish).cfg = s.cfg := rfl
@[simp] theorem State.publish_ctx (s : State) : (s.publish).ctx = s.ctx := rfl
@[simp] theorem State.publish_inst (s : State) :
    (s.publish).inst = { s.inst with ring := s.inst.ring.set s.inst.wr s.publishedSlot, wr := (s.inst.wr + 1) % s.cfg.ringN } := rfl
@[simp] theorem State.publish_seq (s : State) : (s.publish).seq = s.seq := rfl
@[simp] theorem State.publish_pic (s : State) : (s.publish).pic = s.pic := rfl
@[simp] theorem State.publish_slc (s : State) : (s.publish).slc = s.slc := rfl
@[simp] theorem State.publish_mb (s : State) : (s.publish).mb = s.mb := rfl
@[simp] theorem State.publish_cmd (s : State) : (s.publish).cmd = s.cmd := rfl
@[simp] theorem State.publish_inbox (s : State) : (s.publish).inbox = s.inbox := rfl
@[simp] theorem State.publish_outbox (s : State) : (s.publish).outbox = s.outbox := rfl

@[simp] theorem State.startSlice_cfg (s : State) (c : Byte) : (s.startSlice c).cfg = s.cfg := rfl
@[simp] theorem State.startSlice_ctx (s : State) (c : Byte) : (s.startSlice c).ctx = .sliceHeader := rfl
@[simp] theorem State.startSlice_inst (s : State) (c : Byte) : (s.startSlice c).inst = s.inst := rfl
@[simp] theorem State.startSlice_seq (s : State) (c : Byte) : (s.startSlice c).seq = s.seq := rfl
@[simp] theorem State.startSlice_pic (s : State) (c : Byte) : (s.startSlice c).pic = s.pic := rfl
@[simp] theorem State.startSlice_slc (s : State) (c : Byte) :
    (s.startSlice c).slc = { s.slc with sliceRow := c.toNat - 1 } := rfl
@[simp] theorem State.startSlice_mb (s : State) (c : Byte) : (s.startSlice c).mb = s.mb := rfl
@[simp] theorem State.startSlice_cmd (s : State) (c : Byte) : (s.startSlice c).cmd = s.cmd := rfl
@[simp] theorem State.startSlice_inbox (s : State) (c : Byte) : (s.startSlice c).inbox = s.inbox := rfl
@[simp] theorem State.startSlice_outbox (s : State) (c : Byte) : (s.startSlice c).outbox = s.outbox := rfl

end Sys2Proof.Machine
end

