-- ==== Sys2Proof/Laws/Cursor.lean ====
section
/-! SUPPORT. The bit cursor and the outcomes of a procedure: what the start-code search answers (R206), what a bit field holds
(R200), and how an outcome came about. -/

namespace Sys2Proof

theorem fld_lt (rd : Nat → Bool) (p n : Nat) : fld rd p n < 2 ^ n := by
  induction n with
  | zero => simp [fld]
  | succ n ih =>
    have : (rd (p + n)).toNat ≤ 1 := Bool.toNat_le _
    simp only [fld, Nat.pow_succ]
    omega

theorem fld_testBit (rd : Nat → Bool) (p : Nat) {n k : Nat} (h : k < n) :
    (fld rd p n).testBit (n - 1 - k) = rd (p + k) := by
  induction n with
  | zero => omega
  | succ n ih =>
    have hb : (rd (p + n)).toNat = if rd (p + n) then 1 else 0 := by cases rd (p + n) <;> rfl
    rcases Nat.lt_or_ge k n with hk | hk
    · have e : n + 1 - 1 - k = (n - 1 - k) + 1 := by omega
      rw [e, Nat.testBit_succ]
      have : fld rd p (n + 1) / 2 = fld rd p n := by
        simp only [fld]
        have := Bool.toNat_le (rd (p + n))
        omega
      rw [this, ih hk]
    · have e : k = n := by omega
      subst e
      simp only [fld, Nat.add_sub_cancel, Nat.sub_self, Nat.testBit_zero]
      cases rd (p + k) <;> simp

/-- A field depends on its own bits alone. -/
theorem fld_congr {rd rd' : Nat → Bool} {p n : Nat} (h : ∀ k, k < n → rd (p + k) = rd' (p + k)) :
    fld rd p n = fld rd' p n := by
  induction n with
  | zero => rfl
  | succ n ih =>
    simp only [fld]
    rw [ih fun k hk => h k (Nat.lt_succ_of_lt hk), h n (Nat.lt_succ_self n)]

namespace Machine

theorem scanStartCode_some {rd : Nat → Bool} {bits fuel p q : Nat} (h : scanStartCode rd bits fuel p = some q) :
    p ≤ q ∧ q % 8 = p % 8 ∧ q + 24 ≤ bits ∧ fld rd q 24 = 1 ∧
    ∀ x, x % 8 = p % 8 → p ≤ x → x < q → fld rd x 24 ≠ 1 := by
  induction fuel generalizing p with
  | zero => simp [scanStartCode] at h
  | succ fuel ih =>
    unfold scanStartCode at h
    split at h
    · simp at h
    · split at h
      · rename_i h1 h2
        cases h
        exact ⟨Nat.le_refl _, rfl, by omega, h2, fun x _ h3 h4 => absurd h3 (by omega)⟩
      · rename_i h1 h2
        obtain ⟨a, b, c, d, e⟩ := ih h
        refine ⟨by omega, by omega, c, d, fun x hx hp hq => ?_⟩
        rcases Nat.eq_or_lt_of_le hp with rfl | hlt
        · exact h2
        · exact e x (by omega) (by omega) hq

theorem scanStartCode_none {rd : Nat → Bool} {bits fuel p : Nat} (h : scanStartCode rd bits fuel p = none)
    (hf : bits < p + 8 * fuel) : ∀ x, x % 8 = p % 8 → p ≤ x → x + 24 ≤ bits → fld rd x 24 ≠ 1 := by
  induction fuel generalizing p with
  | zero => intro x _ _ _; omega
  | succ fuel ih =>
    intro x hx hp hb
    unfold scanStartCode at h
    split at h
    · omega
    · split at h
      · simp at h
      · rename_i h1 h2
        rcases Nat.eq_or_lt_of_le hp with rfl | hlt
        · exact h2
        · exact ih h (by omega) x (by omega) (by omega) hb

theorem State.startCodePos_some {s : State} {p : Nat} (h : s.startCodePos = some p) : s.NextPrefix p := by
  obtain ⟨a, b, c, d, e⟩ := scanStartCode_some h
  unfold alignByte at *
  exact ⟨by omega, by omega, c, d, fun q hq h1 h2 => e q (by omega) (by omega) h2⟩

theorem State.startCodePos_none {s : State} (h : s.startCodePos = none) : s.NoPrefix := by
  intro q hq h1 h2
  refine scanStartCode_none h ?_ q ?_ ?_ h2
  · unfold State.bufBits
    omega
  · unfold alignByte
    omega
  · unfold alignByte
    omega

theorem State.startCodePos_of_nextPrefix {s : State} {p : Nat} (h : s.NextPrefix p) : s.startCodePos = some p := by
  obtain ⟨a, b, c, d, e⟩ := h
  cases hs : s.startCodePos with
  | none => exact absurd d (State.startCodePos_none hs p a b c)
  | some q =>
    obtain ⟨a', b', c', d', e'⟩ := State.startCodePos_some hs
    rcases Nat.lt_trichotomy p q with h | h | h
    · exact absurd d (e' p a b h)
    · rw [h]
    · exact absurd d' (e q a' b' h)

theorem State.startCodePos_of_noPrefix {s : State} (h : s.NoPrefix) : s.startCodePos = none := by
  cases hs : s.startCodePos with
  | none => rfl
  | some q =>
    obtain ⟨a, b, c, d, -⟩ := State.startCodePos_some hs
    exact absurd d (h q a b c)

-- ---------------------------------------------------------------- outcomes

/-- A next state is a procedure's own result, or a Corrupt event taken. -/
theorem Flow.finish_eq_next {x : Flow} {t : State} (h : x.finish = .next t) :
    x = .go t ∨ ∃ c s, x = .corrupt c s ∧ t = takeCorrupt c s := by
  cases x with
  | go s => cases h; exact .inl rfl
  | corrupt c s => cases h; exact .inr ⟨c, s, rfl, rfl⟩
  | fault f => cases h
  | refuse r => cases h

theorem Flow.bind_eq_go {x : Flow} {k : State → Flow} {t : State} (h : x.bind k = .go t) :
    ∃ s, x = .go s ∧ k s = .go t := by
  cases x with
  | go s => exact ⟨s, rfl, h⟩
  | corrupt c s => cases h
  | fault f => cases h
  | refuse r => cases h

theorem Flow.bind_eq_corrupt {x : Flow} {k : State → Flow} {c : CorruptCode} {t : State}
    (h : x.bind k = .corrupt c t) : x = .corrupt c t ∨ ∃ s, x = .go s ∧ k s = .corrupt c t := by
  cases x with
  | go s => exact .inr ⟨s, rfl, h⟩
  | corrupt c s => exact .inl h
  | fault f => cases h
  | refuse r => cases h

/-- Everything `takeCorrupt` writes: the place in the syntax, the cursor and the log (R663). -/
theorem takeCorrupt_eq (c : CorruptCode) (s : State) :
    ∃ p, takeCorrupt c s = { s with
      ctx := .startCode .slices,
      cmd := { s.cmd with bp := p, errLog := s.cmd.errLog ++ [.corrupt c s.cmd.bp] } } := by
  unfold takeCorrupt State.getStartCode
  cases (s.log (.corrupt c s.cmd.bp)).startCodePos with
  | none => exact ⟨_, rfl⟩
  | some p => exact ⟨p, rfl⟩

end Machine

end Sys2Proof
end

