-- ==== Sys2Proof/Laws/Bits.lean ====
section
/-! SUPPORT. Bit strings and the fields read from them: the encoder's pieces and the decoder's reads agree. -/

namespace Sys2Proof

theorem natBits_length (n v : Nat) : (natBits n v).length = n := by
  induction n with
  | zero => rfl
  | succ n ih => simp [natBits, ih]

theorem natBits_getD {n v k : Nat} (h : k < n) : (natBits n v).getD k false = v.testBit (n - 1 - k) := by
  induction n generalizing k with
  | zero => omega
  | succ n ih =>
    cases k with
    | zero => simp [natBits]
    | succ k =>
      rw [natBits, List.getD_cons_succ, ih (by omega)]
      congr 1
      omega

/-- Agreement with two pieces is agreement with each, the second from where the first ends. -/
theorem agrees_append {rd : Nat → Bool} {l m : List Bool} :
    Agrees rd (l ++ m) ↔ Agrees rd l ∧ Agrees (fun k => rd (l.length + k)) m := by
  unfold Agrees
  constructor
  · intro h
    refine ⟨fun k hk => ?_, fun k hk => ?_⟩
    · have := h k (by simp; omega)
      rwa [List.getD_append _ _ _ _ hk] at this
    · have := h (l.length + k) (by simp; omega)
      rwa [List.getD_append_right _ _ _ _ (by omega), Nat.add_sub_cancel_left] at this
  · rintro ⟨h1, h2⟩ k hk
    rcases Nat.lt_or_ge k l.length with hl | hl
    · rw [List.getD_append _ _ _ _ hl]
      exact h1 k hl
    · rw [List.getD_append_right _ _ _ _ hl]
      have := h2 (k - l.length) (by simp at hk; omega)
      simpa only [Nat.add_sub_cancel' hl] using this

/-- A field read where the bits of a value stand is that value. -/
theorem fld_of_agrees {rd : Nat → Bool} {n v : Nat} (h : Agrees rd (natBits n v)) (hv : v < 2 ^ n) :
    fld rd 0 n = v := by
  apply Nat.eq_of_testBit_eq
  intro i
  rcases Nat.lt_or_ge i n with hi | hi
  · have e : i = n - 1 - (n - 1 - i) := by omega
    have hk : n - 1 - i < n := by omega
    rw [e, fld_testBit rd 0 hk, Nat.zero_add, h _ (by simpa [natBits_length] using hk), natBits_getD hk]
  · have p := Nat.pow_le_pow_right (by decide : 2 > 0) hi
    rw [Nat.testBit_lt_two_pow (Nat.lt_of_lt_of_le (fld_lt rd 0 n) p), Nat.testBit_lt_two_pow (Nat.lt_of_lt_of_le hv p)]

/-- The bits of a field, written out again, are the bits it was read from. -/
theorem agrees_natBits_fld (rd : Nat → Bool) (n : Nat) : Agrees rd (natBits n (fld rd 0 n)) := by
  intro k hk
  have hk : k < n := by simpa [natBits_length] using hk
  rw [natBits_getD hk, fld_testBit rd 0 hk, Nat.zero_add]

/-- A bit vector read where its bits stand. -/
theorem bv_of_agrees {rd : Nat → Bool} {n : Nat} {v : BitVec n} (h : Agrees rd (bvBits v)) : bv rd 0 n = v := by
  unfold bv
  rw [fld_of_agrees h v.isLt]
  simp

/-- A field at `p` is the field at 0 of the bits from `p` on. -/
theorem fld_shift (rd : Nat → Bool) (p n : Nat) : fld rd p n = fld (fun k => rd (p + k)) 0 n := by
  induction n with
  | zero => rfl
  | succ n ih => simp [fld, ih]

end Sys2Proof
end

