-- ==== Sys2Proof/Laws/Memory.lean ====
section
/-! SUPPORT. The laws of the sample memory: what a read gives after a write, and that every write keeps the canonical
form. -/

namespace Sys2Proof.Machine

theorem Memory.read_write_self (m : Memory) (a : Nat) (v : Byte) : (m.write a v).read a = some v := by
  induction m with
  | nil => simp [Memory.write, Memory.read]
  | cons c m ih =>
    obtain ⟨k, w⟩ := c
    unfold Memory.write
    split
    · simp [Memory.read]
    · split
      · simp [Memory.read]
      · rename_i h1 h2
        have : k ≠ a := fun h => h2 h.symm
        simp [Memory.read, this, ih]

/-- A lookup below every address of the memory finds nothing. -/
theorem Memory.read_eq_none_of_lt {m : Memory} {a : Nat} (h : ∀ c ∈ m, a < c.1) : m.read a = none := by
  induction m with
  | nil => rfl
  | cons c m ih =>
    obtain ⟨k, w⟩ := c
    have hk : k ≠ a := by
      have := h (k, w) (by simp)
      simp only at this
      omega
    simp only [Memory.read, hk, if_false]
    exact ih fun c hc => h c (by simp [hc])

theorem Memory.read_write_other {m : Memory} {a b : Nat} (v : Byte) (h : b ≠ a) :
    (m.write a v).read b = m.read b := by
  induction m with
  | nil => simp [Memory.write, Memory.read, h.symm]
  | cons c m ih =>
    obtain ⟨k, w⟩ := c
    unfold Memory.write
    split
    · simp [Memory.read, h.symm]
    · split
      · rename_i _ hk
        subst hk
        simp [Memory.read, h.symm]
      · simp [Memory.read, ih]

/-- Where the addresses of a written memory come from. -/
theorem Memory.mem_write {m : Memory} {a : Nat} {v : Byte} {c : Host.Cell} (h : c ∈ m.write a v) :
    c = (a, v) ∨ c ∈ m := by
  induction m with
  | nil => simpa [Memory.write] using h
  | cons d m ih =>
    obtain ⟨k, w⟩ := d
    unfold Memory.write at h
    split at h
    · simpa using h
    · split at h
      · rcases List.mem_cons.1 h with h | h
        · exact .inl h
        · exact .inr (List.mem_cons_of_mem _ h)
      · rcases List.mem_cons.1 h with h | h
        · exact .inr (by simp [h])
        · rcases ih h with h | h
          · exact .inl h
          · exact .inr (List.mem_cons_of_mem _ h)

theorem Memory.wf_write {m : Memory} (h : m.wf) (a : Nat) (v : Byte) : (m.write a v).wf := by
  induction m with
  | nil => simp [Memory.wf, Memory.write]
  | cons c m ih =>
    obtain ⟨k, w⟩ := c
    have hc := List.pairwise_cons.1 h
    unfold Memory.write
    split
    · rename_i hak
      refine List.pairwise_cons.2 ⟨fun d hd => ?_, h⟩
      rcases List.mem_cons.1 hd with rfl | hd
      · exact hak
      · exact Nat.lt_trans hak (hc.1 d hd)
    · split
      · rename_i _ hk
        subst hk
        exact List.pairwise_cons.2 ⟨hc.1, hc.2⟩
      · refine List.pairwise_cons.2 ⟨fun d hd => ?_, ih hc.2⟩
        rcases Memory.mem_write hd with rfl | hd
        · simp only
          omega
        · exact hc.1 d hd

theorem Memory.wf_writeAll {m : Memory} (h : m.wf) (l : List Host.Cell) : (m.writeAll l).wf := by
  induction l generalizing m with
  | nil => exact h
  | cons c l ih => exact ih (Memory.wf_write h c.1 c.2)

/-- A write list leaves every address it does not name alone. -/
theorem Memory.read_writeAll_other {m : Memory} {l : List Host.Cell} {b : Nat} (h : ∀ c ∈ l, c.1 ≠ b) :
    (m.writeAll l).read b = m.read b := by
  induction l generalizing m with
  | nil => rfl
  | cons c l ih =>
    show ((m.write c.1 c.2).writeAll l).read b = m.read b
    rw [ih fun d hd => h d (List.mem_cons_of_mem _ hd)]
    exact Memory.read_write_other _ (h c (by simp)).symm

/-- A write list that names each address once leaves what it writes. -/
theorem Memory.read_writeAll_mem {m : Memory} {l : List Host.Cell} {a : Nat} {v : Byte}
    (hn : (l.map (·.1)).Nodup) (h : (a, v) ∈ l) : (m.writeAll l).read a = some v := by
  induction l generalizing m with
  | nil => simp at h
  | cons c l ih =>
    show ((m.write c.1 c.2).writeAll l).read a = some v
    have hn' := List.nodup_cons.1 (by simpa using hn : (c.1 :: l.map (·.1)).Nodup)
    rcases List.mem_cons.1 h with rfl | h
    · rw [Memory.read_writeAll_other]
      · exact Memory.read_write_self _ _ _
      · intro d hd heq
        exact hn'.1 (List.mem_map.2 ⟨d, hd, heq⟩)
    · exact ih hn'.2 h

end Sys2Proof.Machine
end

