-- ==== Sys2Proof/Laws/Recon.lean ====
section
/-! SUPPORT. Reconstruction: everything `reconstruct` can answer, where its cells lie (R546), and that samples of one
buffer have addresses of their own. -/

namespace Sys2Proof.Machine

-- ---------------------------------------------------------------- addresses

theorem State.width_le (s : State) : s.width ≤ 4096 := by
  have := s.seq.horizontal_size_value.isLt
  unfold State.width roundUp16
  omega

theorem State.height_le (s : State) : s.height ≤ 4096 := by
  have := s.seq.vertical_size_value.isLt
  unfold State.height roundUp16
  omega

theorem State.width_eq (s : State) : s.width = 16 * s.mbWidth := by
  unfold State.mbWidth State.width roundUp16
  omega

theorem State.height_eq (s : State) : s.height = 16 * s.mbHeight := by
  unfold State.mbHeight State.height roundUp16
  omega

theorem State.planeWidth_eq {s : State} (h : s.inst.allocated = some (s.width, s.height)) (c : Plane) :
    s.planeWidth c = mbPlaneWidth c * s.mbWidth := by
  have := s.width_eq
  cases c <;> simp only [State.planeWidth, h, Option.getD_some, mbPlaneWidth] <;> omega

theorem State.planeHeight_eq {s : State} (h : s.inst.allocated = some (s.width, s.height)) (c : Plane) :
    s.planeHeight c = mbPlaneWidth c * s.mbHeight := by
  have := s.height_eq
  cases c <;> simp only [State.planeHeight, h, Option.getD_some, mbPlaneWidth] <;> omega

theorem mbPlaneWidth_pos (c : Plane) : 0 < mbPlaneWidth c := by cases c <;> decide

theorem mbPlaneWidth_le (c : Plane) : mbPlaneWidth c ≤ 16 := by cases c <;> decide

/-- The positions of a macroblock on the grid lie in the plane. -/
theorem State.mbPos_lt {s : State} (h : s.inst.allocated = some (s.width, s.height)) {a : Nat} (ha : a < s.mbCount)
    {c : Plane} {row col : Nat} (hr : row < mbPlaneWidth c) (hc : col < mbPlaneWidth c) :
    (s.mbPos a c row col).1 < s.planeWidth c ∧ (s.mbPos a c row col).2 < s.planeHeight c := by
  have hw : 0 < s.mbWidth := Nat.pos_of_ne_zero fun h0 => by simp [State.mbCount, h0] at ha
  have h1 : a % s.mbWidth < s.mbWidth := Nat.mod_lt _ hw
  have h2 : a / s.mbWidth < s.mbHeight := Nat.div_lt_of_lt_mul ha
  rw [State.planeWidth_eq h, State.planeHeight_eq h]
  unfold State.mbPos
  constructor
  · calc mbPlaneWidth c * (a % s.mbWidth) + col < mbPlaneWidth c * (a % s.mbWidth) + mbPlaneWidth c := by omega
      _ = mbPlaneWidth c * (a % s.mbWidth + 1) := by rw [Nat.mul_succ]
      _ ≤ mbPlaneWidth c * s.mbWidth := Nat.mul_le_mul_left _ h1
  · calc mbPlaneWidth c * (a / s.mbWidth) + row < mbPlaneWidth c * (a / s.mbWidth) + mbPlaneWidth c := by omega
      _ = mbPlaneWidth c * (a / s.mbWidth + 1) := by rw [Nat.mul_succ]
      _ ≤ mbPlaneWidth c * s.mbHeight := Nat.mul_le_mul_left _ h2

/-- A sample's offset in its plane is below the plane's 2^24 addresses. -/
theorem State.offset_lt {s : State} (h : s.inst.allocated = some (s.width, s.height)) {c : Plane} {x y : Nat}
    (hx : x < s.planeWidth c) (hy : y < s.planeHeight c) : y * s.planeWidth c + x < 2 ^ 24 := by
  have hw : s.planeWidth c ≤ 4096 := by
    have := s.width_le
    cases c <;> simp only [State.planeWidth, h, Option.getD_some] <;> omega
  have hh : s.planeHeight c ≤ 4096 := by
    have := s.height_le
    cases c <;> simp only [State.planeHeight, h, Option.getD_some] <;> omega
  calc y * s.planeWidth c + x < y * s.planeWidth c + s.planeWidth c := by omega
    _ = (y + 1) * s.planeWidth c := by rw [Nat.succ_mul]
    _ ≤ 4096 * 4096 := Nat.mul_le_mul (by omega) hw
    _ = 2 ^ 24 := by norm_num

/-- Samples have addresses of their own: equal addresses are the same buffer, plane and position. -/
theorem State.addr_inj {s : State} (h : s.inst.allocated = some (s.width, s.height)) {b b' : Fin 3} {c c' : Plane}
    {x y x' y' : Nat} (hx : x < s.planeWidth c) (hy : y < s.planeHeight c) (hx' : x' < s.planeWidth c')
    (hy' : y' < s.planeHeight c') (he : s.addr b c x y = s.addr b' c' x' y') :
    b = b' ∧ c = c' ∧ x = x' ∧ y = y' := by
  have o1 := State.offset_lt h hx hy
  have o2 := State.offset_lt h hx' hy'
  have n1 : planeNo c < 3 := by cases c <;> decide
  have n2 : planeNo c' < 3 := by cases c' <;> decide
  unfold State.addr sampleAddr planeBase at he
  have hbc : 3 * b.val + planeNo c = 3 * b'.val + planeNo c' := by omega
  have hb : b = b' := Fin.ext (by omega)
  have hc : c = c' := by
    have : planeNo c = planeNo c' := by omega
    revert this
    cases c <;> cases c' <;> simp [planeNo]
  subst hb hc
  have hoff : y * s.planeWidth c + x = y' * s.planeWidth c + x' := by omega
  have hw : 0 < s.planeWidth c := by omega
  have hxx : x = x' := by
    have := congrArg (· % s.planeWidth c) hoff
    simpa [Nat.mul_add_mod_self_right, Nat.mod_eq_of_lt hx, Nat.mod_eq_of_lt hx'] using this
  subst hxx
  exact ⟨rfl, rfl, rfl, Nat.eq_of_mul_eq_mul_right hw (by omega)⟩

/-- Samples of macroblocks on the grid have addresses of their own. -/
theorem State.mbAddr_inj {s : State} (h : s.inst.allocated = some (s.width, s.height)) {b b' : Fin 3} {a a' : Nat}
    (ha : a < s.mbCount) (ha' : a' < s.mbCount) {c c' : Plane} {row col row' col' : Nat}
    (hr : row < mbPlaneWidth c) (hc : col < mbPlaneWidth c) (hr' : row' < mbPlaneWidth c')
    (hc' : col' < mbPlaneWidth c') (he : s.mbAddr b a c row col = s.mbAddr b' a' c' row' col') :
    b = b' ∧ a = a' ∧ c = c' ∧ row = row' ∧ col = col' := by
  obtain ⟨p1, p2⟩ := State.mbPos_lt h ha hr hc
  obtain ⟨q1, q2⟩ := State.mbPos_lt h ha' hr' hc'
  obtain ⟨rfl, rfl, hx, hy⟩ := State.addr_inj h p1 p2 q1 q2 he
  simp only [State.mbPos] at hx hy
  have key : ∀ {k m n u v : Nat}, u < k → v < k → k * m + u = k * n + v → m = n ∧ u = v := by
    intro k m n u v hu hv e
    have hk : 0 < k := by omega
    have h1 := congrArg (· / k) e
    have h2 := congrArg (· % k) e
    simp only [Nat.mul_add_div hk, Nat.div_eq_of_lt hu, Nat.div_eq_of_lt hv, Nat.add_zero] at h1
    simp only [Nat.mul_add_mod, Nat.mod_eq_of_lt hu, Nat.mod_eq_of_lt hv] at h2
    exact ⟨h1, h2⟩
  obtain ⟨m1, rfl⟩ := key hc hc' hx
  obtain ⟨m2, rfl⟩ := key hr hr' hy
  refine ⟨rfl, ?_, rfl, rfl, rfl⟩
  rw [← Nat.div_add_mod a s.mbWidth, ← Nat.div_add_mod a' s.mbWidth, m1, m2]

-- ---------------------------------------------------------------- the cells of a macroblock

theorem destRowCol_lt (t : Bool) (i : Fin 6) {x y : Nat} (hx : x < 8) (hy : y < 8) :
    (destRowCol t i x y).1 < mbPlaneWidth (blockPlane i) ∧ (destRowCol t i x y).2 < mbPlaneWidth (blockPlane i) := by
  have := i.isLt
  unfold destRowCol blockPlane
  by_cases h4 : i.val < 4
  · simp only [h4, if_true, mbPlaneWidth]
    cases t <;> simp <;> omega
  · simp only [h4, if_false]
    by_cases h5 : i.val = 4 <;> simp [h5, mbPlaneWidth, hx, hy]

/-- Every cell of a macroblock is a sample of it, in the current buffer. -/
theorem State.reconCells_inside {s : State} {p : Option DirPred × Option DirPred} {res : List (List Int)}
    {cell : Host.Cell} (h : cell ∈ s.reconCells p res) :
    ∃ c row col, row < mbPlaneWidth c ∧ col < mbPlaneWidth c ∧
      cell.1 = s.mbAddr s.inst.curIdx s.slc.mba c row col := by
  unfold State.reconCells at h
  obtain ⟨i, -, hi⟩ := List.mem_flatMap.1 h
  obtain ⟨k, hm, rfl⟩ := List.mem_map.1 hi
  have hk : k < 64 := List.mem_range.1 hm
  obtain ⟨h1, h2⟩ := destRowCol_lt s.mb.dctType i (Nat.mod_lt k (by omega : 8 > 0)) (by omega : k / 8 < 8)
  exact ⟨_, _, _, h1, h2, rfl⟩

/-- Everything a reconstruction that goes on changes: the samples of its macroblock, and the blocks. -/
theorem State.reconstruct_go {s t : State} (h : s.reconstruct = .go t) :
    ∃ p cells res, s.prediction = .ok p ∧ s.residuals = res ∧ s.reconCells p res = cells ∧
      t = { s with inst := { s.inst with fb := s.inst.fb.writeAll cells }, mb := { s.mb with blk := res } } ∧
      ∀ n, s.OutsideMb s.inst.curIdx s.slc.mba n → t.inst.fb.read n = s.inst.fb.read n := by
  unfold State.reconstruct at h
  split at h
  · split at h
    · cases h
    · rename_i p hp
      have frame : ∀ n, s.OutsideMb s.inst.curIdx s.slc.mba n →
          (s.inst.fb.writeAll (s.reconCells p s.residuals)).read n = s.inst.fb.read n := by
        intro n hn
        refine Memory.read_writeAll_other fun cell hc => ?_
        obtain ⟨c, row, col, h1, h2, h3⟩ := State.reconCells_inside hc
        rw [h3]
        exact fun e => hn c row col h1 h2 e.symm
      obtain ⟨res, hr⟩ : ∃ res, s.residuals = res := ⟨_, rfl⟩
      obtain ⟨cells, hc⟩ : ∃ cells, s.reconCells p res = cells := ⟨_, rfl⟩
      simp only [hr, hc, State.onInst, State.onMb, Flow.go.injEq] at h frame
      subst h
      exact ⟨p, cells, res, hp, hr, hc, rfl, frame⟩
  · cases h

theorem State.reconstruct_ne_corrupt (s : State) (c : CorruptCode) (t : State) : s.reconstruct ≠ .corrupt c t := by
  unfold State.reconstruct
  split
  · split <;> simp
  · simp

theorem State.residuals_length (s : State) : s.residuals.length = 6 := by simp [State.residuals]

/-- Different samples of the blocks go to different places of the macroblock (R546). -/
theorem destRowCol_inj (t : Bool) {i i' : Fin 6} {k k' : Nat} (hk : k < 64) (hk' : k' < 64)
    (hp : blockPlane i = blockPlane i') (hd : destRowCol t i (k % 8) (k / 8) = destRowCol t i' (k' % 8) (k' / 8)) :
    i = i' ∧ k = k' := by
  have h1 := i.isLt
  have h2 := i'.isLt
  unfold blockPlane at hp
  unfold destRowCol at hd
  by_cases h4 : i.val < 4 <;> by_cases h4' : i'.val < 4 <;> simp only [h4, h4', if_true, if_false] at hp hd
  · rw [Prod.mk.injEq] at hd
    obtain ⟨hr, hc⟩ := hd
    have : i.val = i'.val ∧ k = k' := by
      cases t <;> simp only [if_true, if_false, Bool.false_eq_true] at hr <;> omega
    exact ⟨Fin.ext this.1, this.2⟩
  · split at hp <;> cases hp
  · split at hp <;> cases hp
  · rw [Prod.mk.injEq] at hd
    have hi : i.val = i'.val := by
      split at hp <;> split at hp <;> first | omega | cases hp
    exact ⟨Fin.ext hi, by omega⟩

/-- The cells of a macroblock on the grid have addresses of their own. -/
theorem State.reconCells_nodup {s : State} (h : s.inst.allocated = some (s.width, s.height))
    (hm : s.slc.mba < s.mbCount) (p : Option DirPred × Option DirPred) (res : List (List Int)) :
    ((s.reconCells p res).map (·.1)).Nodup := by
  have key : ∀ i i' : Fin 6, ∀ k k', k < 64 → k' < 64 → (s.reconCell p res i k).1 = (s.reconCell p res i' k').1 →
      i = i' ∧ k = k' := by
    intro i i' k k' hk hk' e
    obtain ⟨r1, c1⟩ := destRowCol_lt s.mb.dctType i (Nat.mod_lt k (by omega : 8 > 0)) (by omega : k / 8 < 8)
    obtain ⟨r2, c2⟩ := destRowCol_lt s.mb.dctType i' (Nat.mod_lt k' (by omega : 8 > 0)) (by omega : k' / 8 < 8)
    obtain ⟨-, -, hp, hr, hc⟩ := State.mbAddr_inj h hm hm r1 c1 r2 c2 e
    exact destRowCol_inj s.mb.dctType hk hk' hp (Prod.ext hr hc)
  unfold State.reconCells
  rw [List.map_flatMap]
  refine List.nodup_flatMap.2 ⟨fun i _ => ?_, ?_⟩
  · rw [List.map_map]
    refine List.Nodup.map_on (fun k hk k' hk' e => ?_) List.nodup_range
    exact (key i i k k' (List.mem_range.1 hk) (List.mem_range.1 hk') e).2
  · refine List.Pairwise.imp ?_ (List.nodup_finRange 6)
    intro i i' hne
    rw [Function.onFun, List.disjoint_left]
    intro a ha ha'
    rw [List.map_map] at ha ha'
    obtain ⟨k, hk, rfl⟩ := List.mem_map.1 ha
    obtain ⟨k', hk', e⟩ := List.mem_map.1 ha'
    exact hne (key i i' k k' (List.mem_range.1 hk) (List.mem_range.1 hk') e.symm).1

end Sys2Proof.Machine
end

