-- ==== Sys2Proof/Laws/Ends.lean ====
section
/-! SUPPORT. The end of a macroblock: the cells reconstruction writes, sample by sample, and everything `finishMacroblock` can
answer, in the words of Safety.lean. -/

namespace Sys2Proof.Machine

-- ---------------------------------------------------------------- the samples a macroblock is written with

/-- A block after the inverse transform (R545). -/
theorem State.residuals_getD (s : State) (i : Fin 6) :
    s.residuals.getD i.val [] =
      if s.mb.cbp.getLsbD (5 - i.val) then idct s.cfg.idct (s.mb.blk.getD i.val []) else s.mb.blk.getD i.val [] := by
  unfold State.residuals codedBlock
  fin_cases i <;> rfl

/-- The six of them. -/
theorem State.residuals_eq (s : State) :
    s.residuals = [0, 1, 2, 3, 4, 5].map fun i : Fin 6 =>
      if s.mb.cbp.getLsbD (5 - i.val) then idct s.cfg.idct (s.mb.blk.getD i.val []) else s.mb.blk.getD i.val [] := rfl

/-- After the cells of a macroblock on the grid are written, sample (x, y) of block `i` reads as the clipped sum of
prediction and residual (R545, R546). -/
theorem State.read_reconCells {s : State} (ha : s.inst.allocated = some (s.width, s.height)) (hm : s.slc.mba < s.mbCount)
    (m : Memory) (p : Option DirPred × Option DirPred) (res : List (List Int)) (i : Fin 6) {x y : Nat} (hx : x < 8)
    (hy : y < 8) :
    let rc := destRowCol s.mb.dctType i x y
    (m.writeAll (s.reconCells p res)).read (s.mbAddr s.inst.curIdx s.slc.mba (blockPlane i) rc.1 rc.2) =
      some (sampleByte (predAt p (blockPlane i) rc.1 rc.2 + (res.getD i.val []).getD (8 * y + x) 0)) := by
  have h1 : (8 * y + x) % 8 = x := by omega
  have h2 : (8 * y + x) / 8 = y := by omega
  have hmem : s.reconCell p res i (8 * y + x) ∈ s.reconCells p res :=
    List.mem_flatMap.2 ⟨i, List.mem_finRange i, List.mem_map.2 ⟨_, List.mem_range.2 (by omega), rfl⟩⟩
  have h := Memory.read_writeAll_mem (m := m) (State.reconCells_nodup ha hm p res) hmem
  simp only [h1, h2] at h
  exact h

/-- No cell of a macroblock lies outside it. -/
theorem State.read_reconCells_outside {s : State} (m : Memory) (p : Option DirPred × Option DirPred)
    (res : List (List Int)) {n : Nat} (hn : s.OutsideMb s.inst.curIdx s.slc.mba n) :
    (m.writeAll (s.reconCells p res)).read n = m.read n := by
  refine Memory.read_writeAll_other fun cell hc => ?_
  obtain ⟨c, row, col, h1, h2, h3⟩ := State.reconCells_inside hc
  rw [h3]
  exact fun e => hn c row col h1 h2 e.symm

-- ---------------------------------------------------------------- the end of a macroblock

theorem State.afterResets_eq (s : State) : s.predictorResets.keepType = s.afterResets := by
  have hdc : Triple.const (dcReset s.pic.intra_dc_precision) =
      ⟨2 ^ (7 + s.pic.intra_dc_precision.toNat), 2 ^ (7 + s.pic.intra_dc_precision.toNat),
        2 ^ (7 + s.pic.intra_dc_precision.toNat)⟩ := by
    simp [Triple.const, dcReset]
  unfold State.predictorResets State.afterResets State.noMc State.keepType State.resetDcPred
  simp only [hdc]
  cases hi : s.mb.mbType.i
  · by_cases h2 : s.pic.picture_coding_type = 2
    · cases hf : s.mb.mbType.f
      · simp only [h2]
        rfl
      · simp only [h2]
        rfl
    · have hb : (s.pic.picture_coding_type == 2) = false := by simpa using h2
      simp only [hb, h2, Bool.false_and, Bool.not_false, Bool.false_eq_true, if_false, false_and]
      rfl
  · cases hc : s.pic.concealment_motion_vectors
    · simp only [Bool.true_and, Bool.not_false, if_true, if_false, Bool.not_true, Bool.and_false, Bool.false_eq_true]
      rfl
    · simp only [if_true, if_false, Bool.not_true, Bool.and_false, Bool.false_eq_true]
      rfl

theorem State.afterMacroblock_eq (s : State) :
    s.afterMacroblock = { s with
      ctx := s.ctxAfterMb,
      slc := { s.slc with mbaInc := if s.ctxAfterMb = .mba false then 0 else s.slc.mbaInc } } := by
  unfold State.afterMacroblock State.ctxAfterMb
  by_cases h1 : s.slc.mba + 1 = s.mbCount <;> by_cases h2 : s.peek 23 = 0 <;> simp [h1, h2] <;> rfl

/-- What follows a macroblock depends on the address, the grid and the cursor alone. -/
theorem State.ctxAfterMb_congr {s t : State} (h1 : t.slc.mba = s.slc.mba) (h2 : t.seq = s.seq) (h3 : t.cfg = s.cfg)
    (h4 : t.cmd = s.cmd) : t.ctxAfterMb = s.ctxAfterMb := by
  have hp : t.peek 23 = s.peek 23 := by
    unfold State.peek State.bitRead State.bit State.bufBits State.bufLen
    rw [h3, h4]
  have hn : t.mbCount = s.mbCount := by
    unfold State.mbCount State.mbWidth State.mbHeight State.width State.height
    rw [h2]
  unfold State.ctxAfterMb
  rw [hp, hn, h1]

theorem State.afterMacroblock_congr {s t : State} (h1 : t.slc.mba = s.slc.mba) (h2 : t.seq = s.seq) (h3 : t.cfg = s.cfg)
    (h4 : t.cmd = s.cmd) :
    t.afterMacroblock = { t with
      ctx := s.ctxAfterMb,
      slc := { t.slc with mbaInc := if s.ctxAfterMb = .mba false then 0 else t.slc.mbaInc } } := by
  rw [t.afterMacroblock_eq, State.ctxAfterMb_congr h1 h2 h3 h4]

/-- A macroblock on the grid is reconstructed exactly where its prediction is formed. -/
theorem State.reconstruct_eq {s : State} (hr : s.reconReady = true) :
    (∀ e, s.prediction = .error e → s.reconstruct = .fault (e.raise s)) ∧
    ∀ p, s.prediction = .ok p → ∀ res, s.residuals = res → ∀ cells, s.reconCells p res = cells →
      s.reconstruct = .go { s with
        inst := { s.inst with fb := s.inst.fb.writeAll cells }, mb := { s.mb with blk := res } } := by
  unfold State.reconstruct
  rw [if_pos hr]
  constructor
  · intro e he
    rw [he]
  · intro p hp res hres cells hcells
    simp only [hp, hres, hcells, State.onInst, State.onMb]

/-- Everything the end of a macroblock can answer. -/
theorem State.finishMacroblock_ends (s : State) : s.MacroblockEnds s.finishMacroblock.finish := by
  have keep : s.afterResets.inst = s.inst ∧ s.afterResets.slc.mba = s.slc.mba ∧ s.afterResets.seq = s.seq ∧
      s.afterResets.cfg = s.cfg ∧ s.afterResets.mb.blk = s.mb.blk ∧ s.afterResets.mb.cbp = s.mb.cbp ∧
      s.afterResets.mb.dctType = s.mb.dctType ∧ s.afterResets.cmd = s.cmd ∧ 
      s.afterResets.slc.mbaInc = s.slc.mbaInc := by
    unfold State.afterResets
    dsimp only
    split
    · exact ⟨rfl, rfl, rfl, rfl, rfl, rfl, rfl, rfl, rfl⟩
    · split <;> exact ⟨rfl, rfl, rfl, rfl, rfl, rfl, rfl, rfl, rfl⟩
  obtain ⟨k1, k2, k3, k4, k5, k6, k7, k8, k9⟩ := keep
  dsimp only [State.MacroblockEnds]
  intro ha hm
  have hw : s.afterResets.width = s.width ∧ s.afterResets.height = s.height := by
    unfold State.width State.height
    rw [k3]
    exact ⟨rfl, rfl⟩
  have hr : s.afterResets.reconReady = true := by
    simp [State.reconReady, State.mbCount, State.mbWidth, State.mbHeight, hw, k1, k2, ha]
    simpa [State.mbCount, State.mbWidth, State.mbHeight] using hm
  have hpos : ∀ c row col, s.afterResets.mbAddr s.afterResets.inst.curIdx s.afterResets.slc.mba c row col =
      s.mbAddr s.inst.curIdx s.slc.mba c row col := by
    intro c row col
    unfold State.mbAddr State.addr State.mbPos State.planeWidth State.mbWidth
    rw [k1, k2, hw.1]
  have hm' : s.afterResets.slc.mba < s.afterResets.mbCount := by
    simpa [State.mbCount, State.mbWidth, State.mbHeight, hw, k2] using hm
  have ha' : s.afterResets.inst.allocated = some (s.afterResets.width, s.afterResets.height) := by rw [k1, hw.1, hw.2, ha]
  have hclip : ∀ v : Int, clip255 v = max 0 (min 255 v) := fun v => by unfold clip255; omega
  obtain ⟨herr, hok⟩ := State.reconstruct_eq hr
  unfold State.finishMacroblock
  rw [s.afterResets_eq]
  refine ⟨fun hp => by rw [herr _ hp]; rfl, fun hp => by rw [herr _ hp]; rfl, fun p hp => ?_⟩
  refine ⟨s.afterResets.inst.fb.writeAll (s.afterResets.reconCells p s.afterResets.residuals), ?_, ?_, ?_⟩
  · obtain ⟨cells, hcells⟩ : ∃ cells, s.afterResets.reconCells p s.afterResets.residuals = cells := ⟨_, rfl⟩
    rw [hok p hp _ s.afterResets.residuals_eq _ (s.afterResets.residuals_eq ▸ hcells), hcells]
    have hnext (blk : List (List Int)) := State.afterMacroblock_congr (s := s)
      (t := { s.afterResets with
        inst := { s.afterResets.inst with fb := s.afterResets.inst.fb.writeAll cells },
        mb := { s.afterResets.mb with blk := blk } }) k2 k3 k4 k8
    simp only [Flow.bind, Flow.finish, hnext]
    rw [← k1, ← k9, ← k4, ← k5, ← k6]
    rfl
  · intro i x y hx hy
    have h := State.read_reconCells ha' hm' s.afterResets.inst.fb p s.afterResets.residuals i hx hy
    have e : destRowCol s.mb.dctType i x y =
        (if i.val < 4 then (if s.mb.dctType then i.val / 2 + 2 * y else 8 * (i.val / 2) + y) else y,
          if i.val < 4 then 8 * (i.val % 2) + x else x) := by
      unfold destRowCol
      split <;> rfl
    dsimp only at h
    rw [hpos, k7, State.residuals_getD, k4, k5, k6, e, sampleByte, hclip] at h
    exact h
  · intro n hn
    rw [← k1]
    refine State.read_reconCells_outside _ _ _ fun c row col h1 h2 => ?_
    rw [hpos]
    exact hn c row col h1 h2
end Sys2Proof.Machine
end

