-- ==== Sys2Proof/Laws/Due.lean ====
section
/-! SUPPORT. What each procedure between two syntax elements of a macroblock makes due next, said once in the words of
Safety.lean, and the values of the coefficient operands. -/

namespace Sys2Proof.Machine

-- ---------------------------------------------------------------- what is due next

theorem State.enterMotion_eq (s : State) (r d t : Bool) :
    (s.FCodeOk d t → s.enterMotion r d t = .go (s.setCtx (.motionCode r d t))) ∧
    (¬ s.FCodeOk d t → s.enterMotion r d t = .corrupt .invalidFCode s) := by
  unfold State.FCodeOk State.enterMotion
  exact ⟨fun h => if_neg (by omega), fun h => if_pos (by omega)⟩

theorem State.enterVectors_due (s : State) (d : Bool) : s.DirectionDue d (s.enterVectors d).finish := by
  refine ⟨fun h => ?_, fun h hf => ?_, fun h hf => ?_⟩
  · rw [State.enterVectors, if_neg h]
    rfl
  · rw [State.enterVectors, if_pos h, (s.enterMotion_eq false d false).1 hf]
    rfl
  · rw [State.enterVectors, if_pos h, (s.enterMotion_eq false d false).2 hf]
    rfl

theorem State.afterMarker_due (s : State) : s.PatternDue s.afterMarker.finish := by
  refine ⟨fun h => ?_, fun h hi => ?_, fun h hi => ?_⟩
  · rw [State.afterMarker, if_pos h]
    rfl
  · simp only [State.afterMarker, h, hi, State.setPattern, State.nextBlock, State.onMb_mb, State.startBlock]
    rfl
  · simp only [State.afterMarker, h, hi, State.setPattern, State.nextBlock, State.onMb_mb]
    exact State.finishMacroblock_ends _

theorem State.afterVectors_due (s : State) :
    (s.concealed = true → s.afterVectors = .go (s.setCtx .marker)) ∧
    (s.concealed = false → s.PatternDue s.afterVectors.finish) := by
  unfold State.afterVectors
  exact ⟨fun h => if_pos h, fun h => by simpa [h] using s.afterMarker_due⟩

theorem State.backwardVectors_due (s : State) : s.BackwardDue s.backwardVectors.finish := by
  unfold State.backwardVectors
  refine ⟨fun h => ?_, fun h hc => ?_, fun h hc => ?_⟩
  · simpa [h] using s.enterVectors_due true
  · simp [h, s.afterVectors_due.1 hc]
    rfl
  · simpa [h] using s.afterVectors_due.2 hc

theorem State.forwardVectors_due (s : State) : s.VectorsDue s.forwardVectors.finish := by
  unfold State.forwardVectors
  exact ⟨fun h => by simpa [h] using s.enterVectors_due false, fun h hc => by simpa [h, hc] using s.backwardVectors_due⟩

theorem State.afterModes_due (s : State) : s.QuantDue s.afterModes.finish := by
  unfold State.afterModes
  exact ⟨fun h => by simp [h]; rfl, fun h => by simpa [h] using s.forwardVectors_due⟩

theorem State.setMotionType_due (s : State) (t : MotionType) :
    (s.onMb fun m => m.setModes t).DctTypeDue (s.setMotionType t).finish := by
  unfold State.setMotionType
  refine ⟨fun h => ?_, fun h => ?_⟩
  · rw [if_pos (by simpa using h)]
    rfl
  · rw [if_neg (by simpa using h)]
    exact State.afterModes_due _

-- ---------------------------------------------------------------- blocks

/-- The next coded block is the first whose pattern bit is set. -/
theorem firstCoded_eq_some {cbp : BitVec 6} {n : Nat} {k : Fin 6} (h0 : n ≤ k.val)
    (h1 : cbp.getLsbD (5 - k.val) = true)
    (h2 : ∀ j : Fin 6, n ≤ j.val → j.val < k.val → cbp.getLsbD (5 - j.val) = false) :
    firstCoded cbp n = some k := by
  have split : ∀ k : Fin 6, ∃ l r, List.finRange 6 = l ++ k :: r ∧ ∀ a ∈ l, a.val < k.val := fun k =>
    ⟨(List.finRange 6).take k.val, (List.finRange 6).drop (k.val + 1), by revert k; decide, by revert k; decide⟩
  obtain ⟨l, r, hl, ha⟩ := split k
  unfold firstCoded codedBlock
  refine List.find?_eq_some_iff_append.2 ⟨by simp [h0, h1], l, r, hl, fun a hm => ?_⟩
  by_cases hn : n ≤ a.val
  · simp [h2 a hn (ha a hm)]
  · simp [hn]

/-- With no coded block left the macroblock ends. -/
theorem firstCoded_eq_none {cbp : BitVec 6} {n : Nat}
    (h : ∀ j : Fin 6, n ≤ j.val → cbp.getLsbD (5 - j.val) = false) : firstCoded cbp n = none := by
  unfold firstCoded codedBlock
  refine List.find?_eq_none.2 fun j _ => ?_
  by_cases hn : n ≤ j.val
  · simp [h j hn]
  · simp [hn]

/-- Dequantisation works on the magnitude and puts the sign back (R379, R380). -/
theorem dequant_signed (intra neg : Bool) {m : Nat} (hm : 0 < m) (scale : Nat) (w : Byte) :
    dequant intra (signed neg m) scale w =
      (let mag : Nat := if intra then (m * scale * w.toNat) / 16 else ((2 * m + 1) * scale * w.toNat) / 32
       if neg then -(mag : Int) else mag) := by
  have h1 : ((m : Int)).sign = 1 := Int.sign_eq_one_of_pos (by omega)
  cases neg <;> cases intra <;> simp [dequant, signed, h1]

/-- The level of an escape is its two's complement value (R243). -/
theorem escapeLevel_eq_toInt (v : BitVec 12) : escapeLevel v = v.toInt := by
  simp only [escapeLevel, BitVec.toInt]
  split <;> split <;> omega

end Sys2Proof.Machine
end

