-- ==== Sys2Proof/Laws/PerInstr.lean ====
section
/-! SUPPORT. One statement for every row of the opcode table, about the instruction as syntax: a well-formed instruction is
read in some decoding context, and its encoding is not empty. -/

namespace Sys2Proof.Laws.Place

/-- A well-formed instruction stands in some decoding context and occupies at least one bit. -/
def Statement (i : Instr) : Prop :=
  i.wf = true → (∃ c, i.inCtx c = true) ∧ encode i ≠ []

theorem slice_start_code (v : BitVec 8) : Statement (.slice_start_code v) :=
  fun _ => ⟨⟨.startCode, rfl⟩, List.cons_ne_nil _ _⟩
theorem system_start_code (c : BitVec 8) : Statement (.system_start_code c) :=
  fun _ => ⟨⟨.startCode, rfl⟩, List.cons_ne_nil _ _⟩
theorem sequence_header_fields (hs vs : BitVec 12) (ar fr : BitVec 4) (br : BitVec 18) (mk : Bool)
    (vbv : BitVec 10) (cp : Bool) (intra nonIntra : Option (List Byte)) :
    Statement (.sequence_header_fields hs vs ar fr br mk vbv cp intra nonIntra) :=
  fun _ => ⟨⟨.seqHeader, rfl⟩, List.cons_ne_nil _ _⟩
theorem sequence_extension_fields (pl : BitVec 8) (prog : Bool) (cf hx vx : BitVec 2) (bx : BitVec 12)
    (mk : Bool) (vbvx : BitVec 8) (ld : Bool) (fn : BitVec 2) (fd : BitVec 5) :
    Statement (.sequence_extension_fields pl prog cf hx vx bx mk vbvx ld fn fd) :=
  fun _ => ⟨⟨.seqExt, rfl⟩, List.cons_ne_nil _ _⟩
theorem quant_matrix_extension_fields (intra nonIntra chromaIntra chromaNonIntra : Option (List Byte)) :
    Statement (.quant_matrix_extension_fields intra nonIntra chromaIntra chromaNonIntra) :=
  fun _ => ⟨⟨.quantMatrix, rfl⟩, List.cons_ne_nil _ _⟩
theorem picture_coding_extension_fields (f00 f01 f10 f11 : BitVec 4) (dcp ps : BitVec 2)
    (tff fpfd cmv qst ivf alt rff c420 pf : Bool) (cd : Option CompositeDisplay) :
    Statement (.picture_coding_extension_fields f00 f01 f10 f11 dcp ps tff fpfd cmv qst ivf alt rff c420 pf cd) :=
  fun _ => ⟨⟨.picCodingExt, rfl⟩, List.cons_ne_nil _ _⟩
theorem group_of_pictures_fields (tc : BitVec 25) (cg bl : Bool) : Statement (.group_of_pictures_fields tc cg bl) :=
  fun _ => ⟨⟨.gop, rfl⟩, List.cons_ne_nil _ _⟩
theorem picture_header_I_fields (tr : BitVec 10) (vd : BitVec 16) (extra : List Byte) :
    Statement (.picture_header_I_fields tr vd extra) :=
  fun _ => ⟨⟨.picHeader, rfl⟩, List.cons_ne_nil _ _⟩
theorem picture_header_P_fields (tr : BitVec 10) (vd : BitVec 16) (fpf : Bool) (ff : BitVec 3) (extra : List Byte) :
    Statement (.picture_header_P_fields tr vd fpf ff extra) :=
  fun _ => ⟨⟨.picHeader, rfl⟩, List.cons_ne_nil _ _⟩
theorem picture_header_B_fields (tr : BitVec 10) (vd : BitVec 16) (fpf : Bool) (ff : BitVec 3) (fpb : Bool)
    (bf : BitVec 3) (extra : List Byte) :
    Statement (.picture_header_B_fields tr vd fpf ff fpb bf extra) :=
  fun _ => ⟨⟨.picHeader, rfl⟩, List.cons_ne_nil _ _⟩
theorem picture_header_other_type_fields (tr : BitVec 10) (ct : BitVec 3) (vd : BitVec 16) (extra : List Byte) :
    Statement (.picture_header_other_type_fields tr ct vd extra) :=
  fun _ => ⟨⟨.picHeader, rfl⟩, List.cons_ne_nil _ _⟩
theorem slice_header_fields__no_intra_slice (q : BitVec 5) : Statement (.slice_header_fields__no_intra_slice q) :=
  fun _ => ⟨⟨.sliceHeader, rfl⟩, List.cons_ne_nil _ _⟩
theorem slice_header_fields__intra_slice (q : BitVec 5) (i : BitVec 8) (extra : List Byte) :
    Statement (.slice_header_fields__intra_slice q i extra) :=
  fun _ => ⟨⟨.sliceHeader, rfl⟩, List.cons_ne_nil _ _⟩
theorem frame_motion_type (m : BitVec 2) : Statement (.frame_motion_type m) :=
  fun _ => ⟨⟨.frameMotionType, rfl⟩, List.cons_ne_nil _ _⟩
theorem dct_type (t : Bool) : Statement (.dct_type t) := fun _ => ⟨⟨.dctType, rfl⟩, List.cons_ne_nil _ _⟩
theorem macroblock_quantiser_scale_code (q : BitVec 5) : Statement (.macroblock_quantiser_scale_code q) :=
  fun _ => ⟨⟨.mbQuant, rfl⟩, List.cons_ne_nil _ _⟩
theorem motion_vertical_field_select (f : Bool) : Statement (.motion_vertical_field_select f) :=
  fun _ => ⟨⟨.fieldSelect, rfl⟩, List.cons_ne_nil _ _⟩
theorem concealment_marker_bit (b : Bool) : Statement (.concealment_marker_bit b) :=
  fun _ => ⟨⟨.marker, rfl⟩, List.cons_ne_nil _ _⟩
theorem dct_dc_differential (size v : Nat) : Statement (.dct_dc_differential size v) :=
  fun h => by
    refine ⟨⟨.dcDiff size, beq_self_eq_true _⟩, ?_⟩
    cases size with
    | zero => simp [Instr.wf] at h
    | succ n => simp [encode, natBits]
theorem DCT0__0_1 (s : Bool) : Statement (.DCT0__0_1 s) := fun _ => ⟨⟨.dct0, rfl⟩, List.cons_ne_nil _ _⟩
theorem DCT0__1_1 (s : Bool) : Statement (.DCT0__1_1 s) := fun _ => ⟨⟨.dct0, rfl⟩, List.cons_ne_nil _ _⟩
theorem DCT0__0_2 (s : Bool) : Statement (.DCT0__0_2 s) := fun _ => ⟨⟨.dct0, rfl⟩, List.cons_ne_nil _ _⟩
theorem DCT0__2_1 (s : Bool) : Statement (.DCT0__2_1 s) := fun _ => ⟨⟨.dct0, rfl⟩, List.cons_ne_nil _ _⟩
theorem DCT0__0_3 (s : Bool) : Statement (.DCT0__0_3 s) := fun _ => ⟨⟨.dct0, rfl⟩, List.cons_ne_nil _ _⟩
theorem DCT0__4_1 (s : Bool) : Statement (.DCT0__4_1 s) := fun _ => ⟨⟨.dct0, rfl⟩, List.cons_ne_nil _ _⟩
theorem DCT0__3_1 (s : Bool) : Statement (.DCT0__3_1 s) := fun _ => ⟨⟨.dct0, rfl⟩, List.cons_ne_nil _ _⟩
theorem DCT0_ESC (run : BitVec 6) (level : BitVec 12) : Statement (.DCT0_ESC run level) :=
  fun _ => ⟨⟨.dct0, rfl⟩, List.cons_ne_nil _ _⟩
theorem DCT0__7_1 (s : Bool) : Statement (.DCT0__7_1 s) := fun _ => ⟨⟨.dct0, rfl⟩, List.cons_ne_nil _ _⟩
theorem DCT0__6_1 (s : Bool) : Statement (.DCT0__6_1 s) := fun _ => ⟨⟨.dct0, rfl⟩, List.cons_ne_nil _ _⟩
theorem DCT0__1_2 (s : Bool) : Statement (.DCT0__1_2 s) := fun _ => ⟨⟨.dct0, rfl⟩, List.cons_ne_nil _ _⟩
theorem DCT0__5_1 (s : Bool) : Statement (.DCT0__5_1 s) := fun _ => ⟨⟨.dct0, rfl⟩, List.cons_ne_nil _ _⟩
theorem DCT0__2_2 (s : Bool) : Statement (.DCT0__2_2 s) := fun _ => ⟨⟨.dct0, rfl⟩, List.cons_ne_nil _ _⟩
theorem DCT0__9_1 (s : Bool) : Statement (.DCT0__9_1 s) := fun _ => ⟨⟨.dct0, rfl⟩, List.cons_ne_nil _ _⟩
theorem DCT0__0_4 (s : Bool) : Statement (.DCT0__0_4 s) := fun _ => ⟨⟨.dct0, rfl⟩, List.cons_ne_nil _ _⟩
theorem DCT0__8_1 (s : Bool) : Statement (.DCT0__8_1 s) := fun _ => ⟨⟨.dct0, rfl⟩, List.cons_ne_nil _ _⟩
theorem DCT0__13_1 (s : Bool) : Statement (.DCT0__13_1 s) := fun _ => ⟨⟨.dct0, rfl⟩, List.cons_ne_nil _ _⟩
theorem DCT0__0_6 (s : Bool) : Statement (.DCT0__0_6 s) := fun _ => ⟨⟨.dct0, rfl⟩, List.cons_ne_nil _ _⟩
theorem DCT0__12_1 (s : Bool) : Statement (.DCT0__12_1 s) := fun _ => ⟨⟨.dct0, rfl⟩, List.cons_ne_nil _ _⟩
theorem DCT0__11_1 (s : Bool) : Statement (.DCT0__11_1 s) := fun _ => ⟨⟨.dct0, rfl⟩, List.cons_ne_nil _ _⟩
theorem DCT0__3_2 (s : Bool) : Statement (.DCT0__3_2 s) := fun _ => ⟨⟨.dct0, rfl⟩, List.cons_ne_nil _ _⟩
theorem DCT0__1_3 (s : Bool) : Statement (.DCT0__1_3 s) := fun _ => ⟨⟨.dct0, rfl⟩, List.cons_ne_nil _ _⟩
theorem DCT0__0_5 (s : Bool) : Statement (.DCT0__0_5 s) := fun _ => ⟨⟨.dct0, rfl⟩, List.cons_ne_nil _ _⟩
theorem DCT0__10_1 (s : Bool) : Statement (.DCT0__10_1 s) := fun _ => ⟨⟨.dct0, rfl⟩, List.cons_ne_nil _ _⟩
theorem DCT0__16_1 (s : Bool) : Statement (.DCT0__16_1 s) := fun _ => ⟨⟨.dct0, rfl⟩, List.cons_ne_nil _ _⟩
theorem DCT0__5_2 (s : Bool) : Statement (.DCT0__5_2 s) := fun _ => ⟨⟨.dct0, rfl⟩, List.cons_ne_nil _ _⟩
theorem DCT0__0_7 (s : Bool) : Statement (.DCT0__0_7 s) := fun _ => ⟨⟨.dct0, rfl⟩, List.cons_ne_nil _ _⟩
theorem DCT0__2_3 (s : Bool) : Statement (.DCT0__2_3 s) := fun _ => ⟨⟨.dct0, rfl⟩, List.cons_ne_nil _ _⟩
theorem DCT0__1_4 (s : Bool) : Statement (.DCT0__1_4 s) := fun _ => ⟨⟨.dct0, rfl⟩, List.cons_ne_nil _ _⟩
theorem DCT0__15_1 (s : Bool) : Statement (.DCT0__15_1 s) := fun _ => ⟨⟨.dct0, rfl⟩, List.cons_ne_nil _ _⟩
theorem DCT0__14_1 (s : Bool) : Statement (.DCT0__14_1 s) := fun _ => ⟨⟨.dct0, rfl⟩, List.cons_ne_nil _ _⟩
theorem DCT0__4_2 (s : Bool) : Statement (.DCT0__4_2 s) := fun _ => ⟨⟨.dct0, rfl⟩, List.cons_ne_nil _ _⟩
theorem DCT0__0_11 (s : Bool) : Statement (.DCT0__0_11 s) := fun _ => ⟨⟨.dct0, rfl⟩, List.cons_ne_nil _ _⟩
theorem DCT0__8_2 (s : Bool) : Statement (.DCT0__8_2 s) := fun _ => ⟨⟨.dct0, rfl⟩, List.cons_ne_nil _ _⟩
theorem DCT0__4_3 (s : Bool) : Statement (.DCT0__4_3 s) := fun _ => ⟨⟨.dct0, rfl⟩, List.cons_ne_nil _ _⟩
theorem DCT0__0_10 (s : Bool) : Statement (.DCT0__0_10 s) := fun _ => ⟨⟨.dct0, rfl⟩, List.cons_ne_nil _ _⟩
theorem DCT0__2_4 (s : Bool) : Statement (.DCT0__2_4 s) := fun _ => ⟨⟨.dct0, rfl⟩, List.cons_ne_nil _ _⟩
theorem DCT0__7_2 (s : Bool) : Statement (.DCT0__7_2 s) := fun _ => ⟨⟨.dct0, rfl⟩, List.cons_ne_nil _ _⟩
theorem DCT0__21_1 (s : Bool) : Statement (.DCT0__21_1 s) := fun _ => ⟨⟨.dct0, rfl⟩, List.cons_ne_nil _ _⟩
theorem DCT0__20_1 (s : Bool) : Statement (.DCT0__20_1 s) := fun _ => ⟨⟨.dct0, rfl⟩, List.cons_ne_nil _ _⟩
theorem DCT0__0_9 (s : Bool) : Statement (.DCT0__0_9 s) := fun _ => ⟨⟨.dct0, rfl⟩, List.cons_ne_nil _ _⟩
theorem DCT0__19_1 (s : Bool) : Statement (.DCT0__19_1 s) := fun _ => ⟨⟨.dct0, rfl⟩, List.cons_ne_nil _ _⟩
theorem DCT0__18_1 (s : Bool) : Statement (.DCT0__18_1 s) := fun _ => ⟨⟨.dct0, rfl⟩, List.cons_ne_nil _ _⟩
theorem DCT0__1_5 (s : Bool) : Statement (.DCT0__1_5 s) := fun _ => ⟨⟨.dct0, rfl⟩, List.cons_ne_nil _ _⟩
theorem DCT0__3_3 (s : Bool) : Statement (.DCT0__3_3 s) := fun _ => ⟨⟨.dct0, rfl⟩, List.cons_ne_nil _ _⟩
theorem DCT0__0_8 (s : Bool) : Statement (.DCT0__0_8 s) := fun _ => ⟨⟨.dct0, rfl⟩, List.cons_ne_nil _ _⟩
theorem DCT0__6_2 (s : Bool) : Statement (.DCT0__6_2 s) := fun _ => ⟨⟨.dct0, rfl⟩, List.cons_ne_nil _ _⟩
theorem DCT0__17_1 (s : Bool) : Statement (.DCT0__17_1 s) := fun _ => ⟨⟨.dct0, rfl⟩, List.cons_ne_nil _ _⟩
theorem DCT0__10_2 (s : Bool) : Statement (.DCT0__10_2 s) := fun _ => ⟨⟨.dct0, rfl⟩, List.cons_ne_nil _ _⟩
theorem DCT0__9_2 (s : Bool) : Statement (.DCT0__9_2 s) := fun _ => ⟨⟨.dct0, rfl⟩, List.cons_ne_nil _ _⟩
theorem DCT0__5_3 (s : Bool) : Statement (.DCT0__5_3 s) := fun _ => ⟨⟨.dct0, rfl⟩, List.cons_ne_nil _ _⟩
theorem DCT0__3_4 (s : Bool) : Statement (.DCT0__3_4 s) := fun _ => ⟨⟨.dct0, rfl⟩, List.cons_ne_nil _ _⟩
theorem DCT0__2_5 (s : Bool) : Statement (.DCT0__2_5 s) := fun _ => ⟨⟨.dct0, rfl⟩, List.cons_ne_nil _ _⟩
theorem DCT0__1_7 (s : Bool) : Statement (.DCT0__1_7 s) := fun _ => ⟨⟨.dct0, rfl⟩, List.cons_ne_nil _ _⟩
theorem DCT0__1_6 (s : Bool) : Statement (.DCT0__1_6 s) := fun _ => ⟨⟨.dct0, rfl⟩, List.cons_ne_nil _ _⟩
theorem DCT0__0_15 (s : Bool) : Statement (.DCT0__0_15 s) := fun _ => ⟨⟨.dct0, rfl⟩, List.cons_ne_nil _ _⟩
theorem DCT0__0_14 (s : Bool) : Statement (.DCT0__0_14 s) := fun _ => ⟨⟨.dct0, rfl⟩, List.cons_ne_nil _ _⟩
theorem DCT0__0_13 (s : Bool) : Statement (.DCT0__0_13 s) := fun _ => ⟨⟨.dct0, rfl⟩, List.cons_ne_nil _ _⟩
theorem DCT0__0_12 (s : Bool) : Statement (.DCT0__0_12 s) := fun _ => ⟨⟨.dct0, rfl⟩, List.cons_ne_nil _ _⟩
theorem DCT0__26_1 (s : Bool) : Statement (.DCT0__26_1 s) := fun _ => ⟨⟨.dct0, rfl⟩, List.cons_ne_nil _ _⟩
theorem DCT0__25_1 (s : Bool) : Statement (.DCT0__25_1 s) := fun _ => ⟨⟨.dct0, rfl⟩, List.cons_ne_nil _ _⟩
theorem DCT0__24_1 (s : Bool) : Statement (.DCT0__24_1 s) := fun _ => ⟨⟨.dct0, rfl⟩, List.cons_ne_nil _ _⟩
theorem DCT0__23_1 (s : Bool) : Statement (.DCT0__23_1 s) := fun _ => ⟨⟨.dct0, rfl⟩, List.cons_ne_nil _ _⟩
theorem DCT0__22_1 (s : Bool) : Statement (.DCT0__22_1 s) := fun _ => ⟨⟨.dct0, rfl⟩, List.cons_ne_nil _ _⟩
theorem DCT0__0_31 (s : Bool) : Statement (.DCT0__0_31 s) := fun _ => ⟨⟨.dct0, rfl⟩, List.cons_ne_nil _ _⟩
theorem DCT0__0_30 (s : Bool) : Statement (.DCT0__0_30 s) := fun _ => ⟨⟨.dct0, rfl⟩, List.cons_ne_nil _ _⟩
theorem DCT0__0_29 (s : Bool) : Statement (.DCT0__0_29 s) := fun _ => ⟨⟨.dct0, rfl⟩, List.cons_ne_nil _ _⟩
theorem DCT0__0_28 (s : Bool) : Statement (.DCT0__0_28 s) := fun _ => ⟨⟨.dct0, rfl⟩, List.cons_ne_nil _ _⟩
theorem DCT0__0_27 (s : Bool) : Statement (.DCT0__0_27 s) := fun _ => ⟨⟨.dct0, rfl⟩, List.cons_ne_nil _ _⟩
theorem DCT0__0_26 (s : Bool) : Statement (.DCT0__0_26 s) := fun _ => ⟨⟨.dct0, rfl⟩, List.cons_ne_nil _ _⟩
theorem DCT0__0_25 (s : Bool) : Statement (.DCT0__0_25 s) := fun _ => ⟨⟨.dct0, rfl⟩, List.cons_ne_nil _ _⟩
theorem DCT0__0_24 (s : Bool) : Statement (.DCT0__0_24 s) := fun _ => ⟨⟨.dct0, rfl⟩, List.cons_ne_nil _ _⟩
theorem DCT0__0_23 (s : Bool) : Statement (.DCT0__0_23 s) := fun _ => ⟨⟨.dct0, rfl⟩, List.cons_ne_nil _ _⟩
theorem DCT0__0_22 (s : Bool) : Statement (.DCT0__0_22 s) := fun _ => ⟨⟨.dct0, rfl⟩, List.cons_ne_nil _ _⟩
theorem DCT0__0_21 (s : Bool) : Statement (.DCT0__0_21 s) := fun _ => ⟨⟨.dct0, rfl⟩, List.cons_ne_nil _ _⟩
theorem DCT0__0_20 (s : Bool) : Statement (.DCT0__0_20 s) := fun _ => ⟨⟨.dct0, rfl⟩, List.cons_ne_nil _ _⟩
theorem DCT0__0_19 (s : Bool) : Statement (.DCT0__0_19 s) := fun _ => ⟨⟨.dct0, rfl⟩, List.cons_ne_nil _ _⟩
theorem DCT0__0_18 (s : Bool) : Statement (.DCT0__0_18 s) := fun _ => ⟨⟨.dct0, rfl⟩, List.cons_ne_nil _ _⟩
theorem DCT0__0_17 (s : Bool) : Statement (.DCT0__0_17 s) := fun _ => ⟨⟨.dct0, rfl⟩, List.cons_ne_nil _ _⟩
theorem DCT0__0_16 (s : Bool) : Statement (.DCT0__0_16 s) := fun _ => ⟨⟨.dct0, rfl⟩, List.cons_ne_nil _ _⟩
theorem DCT0__0_40 (s : Bool) : Statement (.DCT0__0_40 s) := fun _ => ⟨⟨.dct0, rfl⟩, List.cons_ne_nil _ _⟩
theorem DCT0__0_39 (s : Bool) : Statement (.DCT0__0_39 s) := fun _ => ⟨⟨.dct0, rfl⟩, List.cons_ne_nil _ _⟩
theorem DCT0__0_38 (s : Bool) : Statement (.DCT0__0_38 s) := fun _ => ⟨⟨.dct0, rfl⟩, List.cons_ne_nil _ _⟩
theorem DCT0__0_37 (s : Bool) : Statement (.DCT0__0_37 s) := fun _ => ⟨⟨.dct0, rfl⟩, List.cons_ne_nil _ _⟩
theorem DCT0__0_36 (s : Bool) : Statement (.DCT0__0_36 s) := fun _ => ⟨⟨.dct0, rfl⟩, List.cons_ne_nil _ _⟩
theorem DCT0__0_35 (s : Bool) : Statement (.DCT0__0_35 s) := fun _ => ⟨⟨.dct0, rfl⟩, List.cons_ne_nil _ _⟩
theorem DCT0__0_34 (s : Bool) : Statement (.DCT0__0_34 s) := fun _ => ⟨⟨.dct0, rfl⟩, List.cons_ne_nil _ _⟩
theorem DCT0__0_33 (s : Bool) : Statement (.DCT0__0_33 s) := fun _ => ⟨⟨.dct0, rfl⟩, List.cons_ne_nil _ _⟩
theorem DCT0__0_32 (s : Bool) : Statement (.DCT0__0_32 s) := fun _ => ⟨⟨.dct0, rfl⟩, List.cons_ne_nil _ _⟩
theorem DCT0__1_14 (s : Bool) : Statement (.DCT0__1_14 s) := fun _ => ⟨⟨.dct0, rfl⟩, List.cons_ne_nil _ _⟩
theorem DCT0__1_13 (s : Bool) : Statement (.DCT0__1_13 s) := fun _ => ⟨⟨.dct0, rfl⟩, List.cons_ne_nil _ _⟩
theorem DCT0__1_12 (s : Bool) : Statement (.DCT0__1_12 s) := fun _ => ⟨⟨.dct0, rfl⟩, List.cons_ne_nil _ _⟩
theorem DCT0__1_11 (s : Bool) : Statement (.DCT0__1_11 s) := fun _ => ⟨⟨.dct0, rfl⟩, List.cons_ne_nil _ _⟩
theorem DCT0__1_10 (s : Bool) : Statement (.DCT0__1_10 s) := fun _ => ⟨⟨.dct0, rfl⟩, List.cons_ne_nil _ _⟩
theorem DCT0__1_9 (s : Bool) : Statement (.DCT0__1_9 s) := fun _ => ⟨⟨.dct0, rfl⟩, List.cons_ne_nil _ _⟩
theorem DCT0__1_8 (s : Bool) : Statement (.DCT0__1_8 s) := fun _ => ⟨⟨.dct0, rfl⟩, List.cons_ne_nil _ _⟩
theorem DCT0__1_18 (s : Bool) : Statement (.DCT0__1_18 s) := fun _ => ⟨⟨.dct0, rfl⟩, List.cons_ne_nil _ _⟩
theorem DCT0__1_17 (s : Bool) : Statement (.DCT0__1_17 s) := fun _ => ⟨⟨.dct0, rfl⟩, List.cons_ne_nil _ _⟩
theorem DCT0__1_16 (s : Bool) : Statement (.DCT0__1_16 s) := fun _ => ⟨⟨.dct0, rfl⟩, List.cons_ne_nil _ _⟩
theorem DCT0__1_15 (s : Bool) : Statement (.DCT0__1_15 s) := fun _ => ⟨⟨.dct0, rfl⟩, List.cons_ne_nil _ _⟩
theorem DCT0__6_3 (s : Bool) : Statement (.DCT0__6_3 s) := fun _ => ⟨⟨.dct0, rfl⟩, List.cons_ne_nil _ _⟩
theorem DCT0__16_2 (s : Bool) : Statement (.DCT0__16_2 s) := fun _ => ⟨⟨.dct0, rfl⟩, List.cons_ne_nil _ _⟩
theorem DCT0__15_2 (s : Bool) : Statement (.DCT0__15_2 s) := fun _ => ⟨⟨.dct0, rfl⟩, List.cons_ne_nil _ _⟩
theorem DCT0__14_2 (s : Bool) : Statement (.DCT0__14_2 s) := fun _ => ⟨⟨.dct0, rfl⟩, List.cons_ne_nil _ _⟩
theorem DCT0__13_2 (s : Bool) : Statement (.DCT0__13_2 s) := fun _ => ⟨⟨.dct0, rfl⟩, List.cons_ne_nil _ _⟩
theorem DCT0__12_2 (s : Bool) : Statement (.DCT0__12_2 s) := fun _ => ⟨⟨.dct0, rfl⟩, List.cons_ne_nil _ _⟩
theorem DCT0__11_2 (s : Bool) : Statement (.DCT0__11_2 s) := fun _ => ⟨⟨.dct0, rfl⟩, List.cons_ne_nil _ _⟩
theorem DCT0__31_1 (s : Bool) : Statement (.DCT0__31_1 s) := fun _ => ⟨⟨.dct0, rfl⟩, List.cons_ne_nil _ _⟩
theorem DCT0__30_1 (s : Bool) : Statement (.DCT0__30_1 s) := fun _ => ⟨⟨.dct0, rfl⟩, List.cons_ne_nil _ _⟩
theorem DCT0__29_1 (s : Bool) : Statement (.DCT0__29_1 s) := fun _ => ⟨⟨.dct0, rfl⟩, List.cons_ne_nil _ _⟩
theorem DCT0__28_1 (s : Bool) : Statement (.DCT0__28_1 s) := fun _ => ⟨⟨.dct0, rfl⟩, List.cons_ne_nil _ _⟩
theorem DCT0__27_1 (s : Bool) : Statement (.DCT0__27_1 s) := fun _ => ⟨⟨.dct0, rfl⟩, List.cons_ne_nil _ _⟩
theorem DCT0_FIRST__0_1 (s : Bool) : Statement (.DCT0_FIRST__0_1 s) :=
  fun _ => ⟨⟨.dct0First, rfl⟩, List.cons_ne_nil _ _⟩
theorem DCT1__0_1 (s : Bool) : Statement (.DCT1__0_1 s) := fun _ => ⟨⟨.dct1, rfl⟩, List.cons_ne_nil _ _⟩
theorem DCT1__1_1 (s : Bool) : Statement (.DCT1__1_1 s) := fun _ => ⟨⟨.dct1, rfl⟩, List.cons_ne_nil _ _⟩
theorem DCT1__0_2 (s : Bool) : Statement (.DCT1__0_2 s) := fun _ => ⟨⟨.dct1, rfl⟩, List.cons_ne_nil _ _⟩
theorem DCT1__0_3 (s : Bool) : Statement (.DCT1__0_3 s) := fun _ => ⟨⟨.dct1, rfl⟩, List.cons_ne_nil _ _⟩
theorem DCT1__2_1 (s : Bool) : Statement (.DCT1__2_1 s) := fun _ => ⟨⟨.dct1, rfl⟩, List.cons_ne_nil _ _⟩
theorem DCT1__1_2 (s : Bool) : Statement (.DCT1__1_2 s) := fun _ => ⟨⟨.dct1, rfl⟩, List.cons_ne_nil _ _⟩
theorem DCT1__3_1 (s : Bool) : Statement (.DCT1__3_1 s) := fun _ => ⟨⟨.dct1, rfl⟩, List.cons_ne_nil _ _⟩
theorem DCT1__0_4 (s : Bool) : Statement (.DCT1__0_4 s) := fun _ => ⟨⟨.dct1, rfl⟩, List.cons_ne_nil _ _⟩
theorem DCT1__0_5 (s : Bool) : Statement (.DCT1__0_5 s) := fun _ => ⟨⟨.dct1, rfl⟩, List.cons_ne_nil _ _⟩
theorem DCT1_ESC (run : BitVec 6) (level : BitVec 12) : Statement (.DCT1_ESC run level) :=
  fun _ => ⟨⟨.dct1, rfl⟩, List.cons_ne_nil _ _⟩
theorem DCT1__0_7 (s : Bool) : Statement (.DCT1__0_7 s) := fun _ => ⟨⟨.dct1, rfl⟩, List.cons_ne_nil _ _⟩
theorem DCT1__0_6 (s : Bool) : Statement (.DCT1__0_6 s) := fun _ => ⟨⟨.dct1, rfl⟩, List.cons_ne_nil _ _⟩
theorem DCT1__4_1 (s : Bool) : Statement (.DCT1__4_1 s) := fun _ => ⟨⟨.dct1, rfl⟩, List.cons_ne_nil _ _⟩
theorem DCT1__5_1 (s : Bool) : Statement (.DCT1__5_1 s) := fun _ => ⟨⟨.dct1, rfl⟩, List.cons_ne_nil _ _⟩
theorem DCT1__7_1 (s : Bool) : Statement (.DCT1__7_1 s) := fun _ => ⟨⟨.dct1, rfl⟩, List.cons_ne_nil _ _⟩
theorem DCT1__8_1 (s : Bool) : Statement (.DCT1__8_1 s) := fun _ => ⟨⟨.dct1, rfl⟩, List.cons_ne_nil _ _⟩
theorem DCT1__6_1 (s : Bool) : Statement (.DCT1__6_1 s) := fun _ => ⟨⟨.dct1, rfl⟩, List.cons_ne_nil _ _⟩
theorem DCT1__2_2 (s : Bool) : Statement (.DCT1__2_2 s) := fun _ => ⟨⟨.dct1, rfl⟩, List.cons_ne_nil _ _⟩
theorem DCT1__9_1 (s : Bool) : Statement (.DCT1__9_1 s) := fun _ => ⟨⟨.dct1, rfl⟩, List.cons_ne_nil _ _⟩
theorem DCT1__1_3 (s : Bool) : Statement (.DCT1__1_3 s) := fun _ => ⟨⟨.dct1, rfl⟩, List.cons_ne_nil _ _⟩
theorem DCT1__10_1 (s : Bool) : Statement (.DCT1__10_1 s) := fun _ => ⟨⟨.dct1, rfl⟩, List.cons_ne_nil _ _⟩
theorem DCT1__0_8 (s : Bool) : Statement (.DCT1__0_8 s) := fun _ => ⟨⟨.dct1, rfl⟩, List.cons_ne_nil _ _⟩
theorem DCT1__0_9 (s : Bool) : Statement (.DCT1__0_9 s) := fun _ => ⟨⟨.dct1, rfl⟩, List.cons_ne_nil _ _⟩
theorem DCT1__1_5 (s : Bool) : Statement (.DCT1__1_5 s) := fun _ => ⟨⟨.dct1, rfl⟩, List.cons_ne_nil _ _⟩
theorem DCT1__11_1 (s : Bool) : Statement (.DCT1__11_1 s) := fun _ => ⟨⟨.dct1, rfl⟩, List.cons_ne_nil _ _⟩
theorem DCT1__0_11 (s : Bool) : Statement (.DCT1__0_11 s) := fun _ => ⟨⟨.dct1, rfl⟩, List.cons_ne_nil _ _⟩
theorem DCT1__0_10 (s : Bool) : Statement (.DCT1__0_10 s) := fun _ => ⟨⟨.dct1, rfl⟩, List.cons_ne_nil _ _⟩
theorem DCT1__13_1 (s : Bool) : Statement (.DCT1__13_1 s) := fun _ => ⟨⟨.dct1, rfl⟩, List.cons_ne_nil _ _⟩
theorem DCT1__12_1 (s : Bool) : Statement (.DCT1__12_1 s) := fun _ => ⟨⟨.dct1, rfl⟩, List.cons_ne_nil _ _⟩
theorem DCT1__3_2 (s : Bool) : Statement (.DCT1__3_2 s) := fun _ => ⟨⟨.dct1, rfl⟩, List.cons_ne_nil _ _⟩
theorem DCT1__1_4 (s : Bool) : Statement (.DCT1__1_4 s) := fun _ => ⟨⟨.dct1, rfl⟩, List.cons_ne_nil _ _⟩
theorem DCT1__0_12 (s : Bool) : Statement (.DCT1__0_12 s) := fun _ => ⟨⟨.dct1, rfl⟩, List.cons_ne_nil _ _⟩
theorem DCT1__0_13 (s : Bool) : Statement (.DCT1__0_13 s) := fun _ => ⟨⟨.dct1, rfl⟩, List.cons_ne_nil _ _⟩
theorem DCT1__2_3 (s : Bool) : Statement (.DCT1__2_3 s) := fun _ => ⟨⟨.dct1, rfl⟩, List.cons_ne_nil _ _⟩
theorem DCT1__4_2 (s : Bool) : Statement (.DCT1__4_2 s) := fun _ => ⟨⟨.dct1, rfl⟩, List.cons_ne_nil _ _⟩
theorem DCT1__0_14 (s : Bool) : Statement (.DCT1__0_14 s) := fun _ => ⟨⟨.dct1, rfl⟩, List.cons_ne_nil _ _⟩
theorem DCT1__0_15 (s : Bool) : Statement (.DCT1__0_15 s) := fun _ => ⟨⟨.dct1, rfl⟩, List.cons_ne_nil _ _⟩
theorem DCT1__5_2 (s : Bool) : Statement (.DCT1__5_2 s) := fun _ => ⟨⟨.dct1, rfl⟩, List.cons_ne_nil _ _⟩
theorem DCT1__14_1 (s : Bool) : Statement (.DCT1__14_1 s) := fun _ => ⟨⟨.dct1, rfl⟩, List.cons_ne_nil _ _⟩
theorem DCT1__15_1 (s : Bool) : Statement (.DCT1__15_1 s) := fun _ => ⟨⟨.dct1, rfl⟩, List.cons_ne_nil _ _⟩
theorem DCT1__2_4 (s : Bool) : Statement (.DCT1__2_4 s) := fun _ => ⟨⟨.dct1, rfl⟩, List.cons_ne_nil _ _⟩
theorem DCT1__16_1 (s : Bool) : Statement (.DCT1__16_1 s) := fun _ => ⟨⟨.dct1, rfl⟩, List.cons_ne_nil _ _⟩
theorem DCT1__8_2 (s : Bool) : Statement (.DCT1__8_2 s) := fun _ => ⟨⟨.dct1, rfl⟩, List.cons_ne_nil _ _⟩
theorem DCT1__4_3 (s : Bool) : Statement (.DCT1__4_3 s) := fun _ => ⟨⟨.dct1, rfl⟩, List.cons_ne_nil _ _⟩
theorem DCT1__7_2 (s : Bool) : Statement (.DCT1__7_2 s) := fun _ => ⟨⟨.dct1, rfl⟩, List.cons_ne_nil _ _⟩
theorem DCT1__21_1 (s : Bool) : Statement (.DCT1__21_1 s) := fun _ => ⟨⟨.dct1, rfl⟩, List.cons_ne_nil _ _⟩
theorem DCT1__20_1 (s : Bool) : Statement (.DCT1__20_1 s) := fun _ => ⟨⟨.dct1, rfl⟩, List.cons_ne_nil _ _⟩
theorem DCT1__19_1 (s : Bool) : Statement (.DCT1__19_1 s) := fun _ => ⟨⟨.dct1, rfl⟩, List.cons_ne_nil _ _⟩
theorem DCT1__18_1 (s : Bool) : Statement (.DCT1__18_1 s) := fun _ => ⟨⟨.dct1, rfl⟩, List.cons_ne_nil _ _⟩
theorem DCT1__3_3 (s : Bool) : Statement (.DCT1__3_3 s) := fun _ => ⟨⟨.dct1, rfl⟩, List.cons_ne_nil _ _⟩
theorem DCT1__6_2 (s : Bool) : Statement (.DCT1__6_2 s) := fun _ => ⟨⟨.dct1, rfl⟩, List.cons_ne_nil _ _⟩
theorem DCT1__17_1 (s : Bool) : Statement (.DCT1__17_1 s) := fun _ => ⟨⟨.dct1, rfl⟩, List.cons_ne_nil _ _⟩
theorem DCT1__10_2 (s : Bool) : Statement (.DCT1__10_2 s) := fun _ => ⟨⟨.dct1, rfl⟩, List.cons_ne_nil _ _⟩
theorem DCT1__9_2 (s : Bool) : Statement (.DCT1__9_2 s) := fun _ => ⟨⟨.dct1, rfl⟩, List.cons_ne_nil _ _⟩
theorem DCT1__5_3 (s : Bool) : Statement (.DCT1__5_3 s) := fun _ => ⟨⟨.dct1, rfl⟩, List.cons_ne_nil _ _⟩
theorem DCT1__3_4 (s : Bool) : Statement (.DCT1__3_4 s) := fun _ => ⟨⟨.dct1, rfl⟩, List.cons_ne_nil _ _⟩
theorem DCT1__2_5 (s : Bool) : Statement (.DCT1__2_5 s) := fun _ => ⟨⟨.dct1, rfl⟩, List.cons_ne_nil _ _⟩
theorem DCT1__1_7 (s : Bool) : Statement (.DCT1__1_7 s) := fun _ => ⟨⟨.dct1, rfl⟩, List.cons_ne_nil _ _⟩
theorem DCT1__1_6 (s : Bool) : Statement (.DCT1__1_6 s) := fun _ => ⟨⟨.dct1, rfl⟩, List.cons_ne_nil _ _⟩
theorem DCT1__26_1 (s : Bool) : Statement (.DCT1__26_1 s) := fun _ => ⟨⟨.dct1, rfl⟩, List.cons_ne_nil _ _⟩
theorem DCT1__25_1 (s : Bool) : Statement (.DCT1__25_1 s) := fun _ => ⟨⟨.dct1, rfl⟩, List.cons_ne_nil _ _⟩
theorem DCT1__24_1 (s : Bool) : Statement (.DCT1__24_1 s) := fun _ => ⟨⟨.dct1, rfl⟩, List.cons_ne_nil _ _⟩
theorem DCT1__23_1 (s : Bool) : Statement (.DCT1__23_1 s) := fun _ => ⟨⟨.dct1, rfl⟩, List.cons_ne_nil _ _⟩
theorem DCT1__22_1 (s : Bool) : Statement (.DCT1__22_1 s) := fun _ => ⟨⟨.dct1, rfl⟩, List.cons_ne_nil _ _⟩
theorem DCT1__0_31 (s : Bool) : Statement (.DCT1__0_31 s) := fun _ => ⟨⟨.dct1, rfl⟩, List.cons_ne_nil _ _⟩
theorem DCT1__0_30 (s : Bool) : Statement (.DCT1__0_30 s) := fun _ => ⟨⟨.dct1, rfl⟩, List.cons_ne_nil _ _⟩
theorem DCT1__0_29 (s : Bool) : Statement (.DCT1__0_29 s) := fun _ => ⟨⟨.dct1, rfl⟩, List.cons_ne_nil _ _⟩
theorem DCT1__0_28 (s : Bool) : Statement (.DCT1__0_28 s) := fun _ => ⟨⟨.dct1, rfl⟩, List.cons_ne_nil _ _⟩
theorem DCT1__0_27 (s : Bool) : Statement (.DCT1__0_27 s) := fun _ => ⟨⟨.dct1, rfl⟩, List.cons_ne_nil _ _⟩
theorem DCT1__0_26 (s : Bool) : Statement (.DCT1__0_26 s) := fun _ => ⟨⟨.dct1, rfl⟩, List.cons_ne_nil _ _⟩
theorem DCT1__0_25 (s : Bool) : Statement (.DCT1__0_25 s) := fun _ => ⟨⟨.dct1, rfl⟩, List.cons_ne_nil _ _⟩
theorem DCT1__0_24 (s : Bool) : Statement (.DCT1__0_24 s) := fun _ => ⟨⟨.dct1, rfl⟩, List.cons_ne_nil _ _⟩
theorem DCT1__0_23 (s : Bool) : Statement (.DCT1__0_23 s) := fun _ => ⟨⟨.dct1, rfl⟩, List.cons_ne_nil _ _⟩
theorem DCT1__0_22 (s : Bool) : Statement (.DCT1__0_22 s) := fun _ => ⟨⟨.dct1, rfl⟩, List.cons_ne_nil _ _⟩
theorem DCT1__0_21 (s : Bool) : Statement (.DCT1__0_21 s) := fun _ => ⟨⟨.dct1, rfl⟩, List.cons_ne_nil _ _⟩
theorem DCT1__0_20 (s : Bool) : Statement (.DCT1__0_20 s) := fun _ => ⟨⟨.dct1, rfl⟩, List.cons_ne_nil _ _⟩
theorem DCT1__0_19 (s : Bool) : Statement (.DCT1__0_19 s) := fun _ => ⟨⟨.dct1, rfl⟩, List.cons_ne_nil _ _⟩
theorem DCT1__0_18 (s : Bool) : Statement (.DCT1__0_18 s) := fun _ => ⟨⟨.dct1, rfl⟩, List.cons_ne_nil _ _⟩
theorem DCT1__0_17 (s : Bool) : Statement (.DCT1__0_17 s) := fun _ => ⟨⟨.dct1, rfl⟩, List.cons_ne_nil _ _⟩
theorem DCT1__0_16 (s : Bool) : Statement (.DCT1__0_16 s) := fun _ => ⟨⟨.dct1, rfl⟩, List.cons_ne_nil _ _⟩
theorem DCT1__0_40 (s : Bool) : Statement (.DCT1__0_40 s) := fun _ => ⟨⟨.dct1, rfl⟩, List.cons_ne_nil _ _⟩
theorem DCT1__0_39 (s : Bool) : Statement (.DCT1__0_39 s) := fun _ => ⟨⟨.dct1, rfl⟩, List.cons_ne_nil _ _⟩
theorem DCT1__0_38 (s : Bool) : Statement (.DCT1__0_38 s) := fun _ => ⟨⟨.dct1, rfl⟩, List.cons_ne_nil _ _⟩
theorem DCT1__0_37 (s : Bool) : Statement (.DCT1__0_37 s) := fun _ => ⟨⟨.dct1, rfl⟩, List.cons_ne_nil _ _⟩
theorem DCT1__0_36 (s : Bool) : Statement (.DCT1__0_36 s) := fun _ => ⟨⟨.dct1, rfl⟩, List.cons_ne_nil _ _⟩
theorem DCT1__0_35 (s : Bool) : Statement (.DCT1__0_35 s) := fun _ => ⟨⟨.dct1, rfl⟩, List.cons_ne_nil _ _⟩
theorem DCT1__0_34 (s : Bool) : Statement (.DCT1__0_34 s) := fun _ => ⟨⟨.dct1, rfl⟩, List.cons_ne_nil _ _⟩
theorem DCT1__0_33 (s : Bool) : Statement (.DCT1__0_33 s) := fun _ => ⟨⟨.dct1, rfl⟩, List.cons_ne_nil _ _⟩
theorem DCT1__0_32 (s : Bool) : Statement (.DCT1__0_32 s) := fun _ => ⟨⟨.dct1, rfl⟩, List.cons_ne_nil _ _⟩
theorem DCT1__1_14 (s : Bool) : Statement (.DCT1__1_14 s) := fun _ => ⟨⟨.dct1, rfl⟩, List.cons_ne_nil _ _⟩
theorem DCT1__1_13 (s : Bool) : Statement (.DCT1__1_13 s) := fun _ => ⟨⟨.dct1, rfl⟩, List.cons_ne_nil _ _⟩
theorem DCT1__1_12 (s : Bool) : Statement (.DCT1__1_12 s) := fun _ => ⟨⟨.dct1, rfl⟩, List.cons_ne_nil _ _⟩
theorem DCT1__1_11 (s : Bool) : Statement (.DCT1__1_11 s) := fun _ => ⟨⟨.dct1, rfl⟩, List.cons_ne_nil _ _⟩
theorem DCT1__1_10 (s : Bool) : Statement (.DCT1__1_10 s) := fun _ => ⟨⟨.dct1, rfl⟩, List.cons_ne_nil _ _⟩
theorem DCT1__1_9 (s : Bool) : Statement (.DCT1__1_9 s) := fun _ => ⟨⟨.dct1, rfl⟩, List.cons_ne_nil _ _⟩
theorem DCT1__1_8 (s : Bool) : Statement (.DCT1__1_8 s) := fun _ => ⟨⟨.dct1, rfl⟩, List.cons_ne_nil _ _⟩
theorem DCT1__1_18 (s : Bool) : Statement (.DCT1__1_18 s) := fun _ => ⟨⟨.dct1, rfl⟩, List.cons_ne_nil _ _⟩
theorem DCT1__1_17 (s : Bool) : Statement (.DCT1__1_17 s) := fun _ => ⟨⟨.dct1, rfl⟩, List.cons_ne_nil _ _⟩
theorem DCT1__1_16 (s : Bool) : Statement (.DCT1__1_16 s) := fun _ => ⟨⟨.dct1, rfl⟩, List.cons_ne_nil _ _⟩
theorem DCT1__1_15 (s : Bool) : Statement (.DCT1__1_15 s) := fun _ => ⟨⟨.dct1, rfl⟩, List.cons_ne_nil _ _⟩
theorem DCT1__6_3 (s : Bool) : Statement (.DCT1__6_3 s) := fun _ => ⟨⟨.dct1, rfl⟩, List.cons_ne_nil _ _⟩
theorem DCT1__16_2 (s : Bool) : Statement (.DCT1__16_2 s) := fun _ => ⟨⟨.dct1, rfl⟩, List.cons_ne_nil _ _⟩
theorem DCT1__15_2 (s : Bool) : Statement (.DCT1__15_2 s) := fun _ => ⟨⟨.dct1, rfl⟩, List.cons_ne_nil _ _⟩
theorem DCT1__14_2 (s : Bool) : Statement (.DCT1__14_2 s) := fun _ => ⟨⟨.dct1, rfl⟩, List.cons_ne_nil _ _⟩
theorem DCT1__13_2 (s : Bool) : Statement (.DCT1__13_2 s) := fun _ => ⟨⟨.dct1, rfl⟩, List.cons_ne_nil _ _⟩
theorem DCT1__12_2 (s : Bool) : Statement (.DCT1__12_2 s) := fun _ => ⟨⟨.dct1, rfl⟩, List.cons_ne_nil _ _⟩
theorem DCT1__11_2 (s : Bool) : Statement (.DCT1__11_2 s) := fun _ => ⟨⟨.dct1, rfl⟩, List.cons_ne_nil _ _⟩
theorem DCT1__31_1 (s : Bool) : Statement (.DCT1__31_1 s) := fun _ => ⟨⟨.dct1, rfl⟩, List.cons_ne_nil _ _⟩
theorem DCT1__30_1 (s : Bool) : Statement (.DCT1__30_1 s) := fun _ => ⟨⟨.dct1, rfl⟩, List.cons_ne_nil _ _⟩
theorem DCT1__29_1 (s : Bool) : Statement (.DCT1__29_1 s) := fun _ => ⟨⟨.dct1, rfl⟩, List.cons_ne_nil _ _⟩
theorem DCT1__28_1 (s : Bool) : Statement (.DCT1__28_1 s) := fun _ => ⟨⟨.dct1, rfl⟩, List.cons_ne_nil _ _⟩
theorem DCT1__27_1 (s : Bool) : Statement (.DCT1__27_1 s) := fun _ => ⟨⟨.dct1, rfl⟩, List.cons_ne_nil _ _⟩
theorem picture_start_code : Statement .picture_start_code := fun _ => ⟨⟨.startCode, rfl⟩, List.cons_ne_nil _ _⟩
theorem reserved_B0 : Statement .reserved_B0 := fun _ => ⟨⟨.startCode, rfl⟩, List.cons_ne_nil _ _⟩
theorem reserved_B1 : Statement .reserved_B1 := fun _ => ⟨⟨.startCode, rfl⟩, List.cons_ne_nil _ _⟩
theorem reserved_B6 : Statement .reserved_B6 := fun _ => ⟨⟨.startCode, rfl⟩, List.cons_ne_nil _ _⟩
theorem user_data_start_code : Statement .user_data_start_code := fun _ => ⟨⟨.startCode, rfl⟩, List.cons_ne_nil _ _⟩
theorem sequence_header_code : Statement .sequence_header_code := fun _ => ⟨⟨.startCode, rfl⟩, List.cons_ne_nil _ _⟩
theorem sequence_error_code : Statement .sequence_error_code := fun _ => ⟨⟨.startCode, rfl⟩, List.cons_ne_nil _ _⟩
theorem extension_start_code : Statement .extension_start_code := fun _ => ⟨⟨.startCode, rfl⟩, List.cons_ne_nil _ _⟩
theorem sequence_end_code : Statement .sequence_end_code := fun _ => ⟨⟨.startCode, rfl⟩, List.cons_ne_nil _ _⟩
theorem group_start_code : Statement .group_start_code := fun _ => ⟨⟨.startCode, rfl⟩, List.cons_ne_nil _ _⟩
theorem extension_id_0_reserved : Statement .extension_id_0_reserved := fun _ => ⟨⟨.extId, rfl⟩, List.cons_ne_nil _ _⟩
theorem extension_id_1_sequence_extension : Statement .extension_id_1_sequence_extension :=
  fun _ => ⟨⟨.extId, rfl⟩, List.cons_ne_nil _ _⟩
theorem extension_id_2_sequence_display_extension : Statement .extension_id_2_sequence_display_extension :=
  fun _ => ⟨⟨.extId, rfl⟩, List.cons_ne_nil _ _⟩
theorem extension_id_3_quant_matrix_extension : Statement .extension_id_3_quant_matrix_extension :=
  fun _ => ⟨⟨.extId, rfl⟩, List.cons_ne_nil _ _⟩
theorem extension_id_4_copyright_extension : Statement .extension_id_4_copyright_extension :=
  fun _ => ⟨⟨.extId, rfl⟩, List.cons_ne_nil _ _⟩
theorem extension_id_5_sequence_scalable_extension : Statement .extension_id_5_sequence_scalable_extension :=
  fun _ => ⟨⟨.extId, rfl⟩, List.cons_ne_nil _ _⟩
theorem extension_id_6_reserved : Statement .extension_id_6_reserved := fun _ => ⟨⟨.extId, rfl⟩, List.cons_ne_nil _ _⟩
theorem extension_id_7_picture_display_extension : Statement .extension_id_7_picture_display_extension :=
  fun _ => ⟨⟨.extId, rfl⟩, List.cons_ne_nil _ _⟩
theorem extension_id_8_picture_coding_extension : Statement .extension_id_8_picture_coding_extension :=
  fun _ => ⟨⟨.extId, rfl⟩, List.cons_ne_nil _ _⟩
theorem extension_id_9_picture_spatial_scalable_extension :
    Statement .extension_id_9_picture_spatial_scalable_extension :=
  fun _ => ⟨⟨.extId, rfl⟩, List.cons_ne_nil _ _⟩
theorem extension_id_10_picture_temporal_scalable_extension :
    Statement .extension_id_10_picture_temporal_scalable_extension :=
  fun _ => ⟨⟨.extId, rfl⟩, List.cons_ne_nil _ _⟩
theorem extension_id_11_camera_parameters_extension : Statement .extension_id_11_camera_parameters_extension :=
  fun _ => ⟨⟨.extId, rfl⟩, List.cons_ne_nil _ _⟩
theorem extension_id_12_itu_t_extension : Statement .extension_id_12_itu_t_extension :=
  fun _ => ⟨⟨.extId, rfl⟩, List.cons_ne_nil _ _⟩
theorem extension_id_13_reserved : Statement .extension_id_13_reserved := fun _ => ⟨⟨.extId, rfl⟩, List.cons_ne_nil _ _⟩
theorem extension_id_14_reserved : Statement .extension_id_14_reserved := fun _ => ⟨⟨.extId, rfl⟩, List.cons_ne_nil _ _⟩
theorem extension_id_15_reserved : Statement .extension_id_15_reserved := fun _ => ⟨⟨.extId, rfl⟩, List.cons_ne_nil _ _⟩
theorem MBA_1 : Statement .MBA_1 := fun _ => ⟨⟨.mba, rfl⟩, List.cons_ne_nil _ _⟩
theorem MBA_3 : Statement .MBA_3 := fun _ => ⟨⟨.mba, rfl⟩, List.cons_ne_nil _ _⟩
theorem MBA_2 : Statement .MBA_2 := fun _ => ⟨⟨.mba, rfl⟩, List.cons_ne_nil _ _⟩
theorem MBA_5 : Statement .MBA_5 := fun _ => ⟨⟨.mba, rfl⟩, List.cons_ne_nil _ _⟩
theorem MBA_4 : Statement .MBA_4 := fun _ => ⟨⟨.mba, rfl⟩, List.cons_ne_nil _ _⟩
theorem MBA_7 : Statement .MBA_7 := fun _ => ⟨⟨.mba, rfl⟩, List.cons_ne_nil _ _⟩
theorem MBA_6 : Statement .MBA_6 := fun _ => ⟨⟨.mba, rfl⟩, List.cons_ne_nil _ _⟩
theorem MBA_9 : Statement .MBA_9 := fun _ => ⟨⟨.mba, rfl⟩, List.cons_ne_nil _ _⟩
theorem MBA_8 : Statement .MBA_8 := fun _ => ⟨⟨.mba, rfl⟩, List.cons_ne_nil _ _⟩
theorem MBA_15 : Statement .MBA_15 := fun _ => ⟨⟨.mba, rfl⟩, List.cons_ne_nil _ _⟩
theorem MBA_14 : Statement .MBA_14 := fun _ => ⟨⟨.mba, rfl⟩, List.cons_ne_nil _ _⟩
theorem MBA_13 : Statement .MBA_13 := fun _ => ⟨⟨.mba, rfl⟩, List.cons_ne_nil _ _⟩
theorem MBA_12 : Statement .MBA_12 := fun _ => ⟨⟨.mba, rfl⟩, List.cons_ne_nil _ _⟩
theorem MBA_11 : Statement .MBA_11 := fun _ => ⟨⟨.mba, rfl⟩, List.cons_ne_nil _ _⟩
theorem MBA_10 : Statement .MBA_10 := fun _ => ⟨⟨.mba, rfl⟩, List.cons_ne_nil _ _⟩
theorem MBA_21 : Statement .MBA_21 := fun _ => ⟨⟨.mba, rfl⟩, List.cons_ne_nil _ _⟩
theorem MBA_20 : Statement .MBA_20 := fun _ => ⟨⟨.mba, rfl⟩, List.cons_ne_nil _ _⟩
theorem MBA_19 : Statement .MBA_19 := fun _ => ⟨⟨.mba, rfl⟩, List.cons_ne_nil _ _⟩
theorem MBA_18 : Statement .MBA_18 := fun _ => ⟨⟨.mba, rfl⟩, List.cons_ne_nil _ _⟩
theorem MBA_17 : Statement .MBA_17 := fun _ => ⟨⟨.mba, rfl⟩, List.cons_ne_nil _ _⟩
theorem MBA_16 : Statement .MBA_16 := fun _ => ⟨⟨.mba, rfl⟩, List.cons_ne_nil _ _⟩
theorem MBA_ESC : Statement .MBA_ESC := fun _ => ⟨⟨.mba, rfl⟩, List.cons_ne_nil _ _⟩
theorem MBA_33 : Statement .MBA_33 := fun _ => ⟨⟨.mba, rfl⟩, List.cons_ne_nil _ _⟩
theorem MBA_32 : Statement .MBA_32 := fun _ => ⟨⟨.mba, rfl⟩, List.cons_ne_nil _ _⟩
theorem MBA_31 : Statement .MBA_31 := fun _ => ⟨⟨.mba, rfl⟩, List.cons_ne_nil _ _⟩
theorem MBA_30 : Statement .MBA_30 := fun _ => ⟨⟨.mba, rfl⟩, List.cons_ne_nil _ _⟩
theorem MBA_29 : Statement .MBA_29 := fun _ => ⟨⟨.mba, rfl⟩, List.cons_ne_nil _ _⟩
theorem MBA_28 : Statement .MBA_28 := fun _ => ⟨⟨.mba, rfl⟩, List.cons_ne_nil _ _⟩
theorem MBA_27 : Statement .MBA_27 := fun _ => ⟨⟨.mba, rfl⟩, List.cons_ne_nil _ _⟩
theorem MBA_26 : Statement .MBA_26 := fun _ => ⟨⟨.mba, rfl⟩, List.cons_ne_nil _ _⟩
theorem MBA_25 : Statement .MBA_25 := fun _ => ⟨⟨.mba, rfl⟩, List.cons_ne_nil _ _⟩
theorem MBA_24 : Statement .MBA_24 := fun _ => ⟨⟨.mba, rfl⟩, List.cons_ne_nil _ _⟩
theorem MBA_23 : Statement .MBA_23 := fun _ => ⟨⟨.mba, rfl⟩, List.cons_ne_nil _ _⟩
theorem MBA_22 : Statement .MBA_22 := fun _ => ⟨⟨.mba, rfl⟩, List.cons_ne_nil _ _⟩
theorem MBTYPE_I_I : Statement .MBTYPE_I_I := fun _ => ⟨⟨.mbTypeI, rfl⟩, List.cons_ne_nil _ _⟩
theorem MBTYPE_I_Q_I : Statement .MBTYPE_I_Q_I := fun _ => ⟨⟨.mbTypeI, rfl⟩, List.cons_ne_nil _ _⟩
theorem MBTYPE_P_F_P : Statement .MBTYPE_P_F_P := fun _ => ⟨⟨.mbTypeP, rfl⟩, List.cons_ne_nil _ _⟩
theorem MBTYPE_P_P : Statement .MBTYPE_P_P := fun _ => ⟨⟨.mbTypeP, rfl⟩, List.cons_ne_nil _ _⟩
theorem MBTYPE_P_F : Statement .MBTYPE_P_F := fun _ => ⟨⟨.mbTypeP, rfl⟩, List.cons_ne_nil _ _⟩
theorem MBTYPE_P_Q_P : Statement .MBTYPE_P_Q_P := fun _ => ⟨⟨.mbTypeP, rfl⟩, List.cons_ne_nil _ _⟩
theorem MBTYPE_P_Q_F_P : Statement .MBTYPE_P_Q_F_P := fun _ => ⟨⟨.mbTypeP, rfl⟩, List.cons_ne_nil _ _⟩
theorem MBTYPE_P_I : Statement .MBTYPE_P_I := fun _ => ⟨⟨.mbTypeP, rfl⟩, List.cons_ne_nil _ _⟩
theorem MBTYPE_P_Q_I : Statement .MBTYPE_P_Q_I := fun _ => ⟨⟨.mbTypeP, rfl⟩, List.cons_ne_nil _ _⟩
theorem MBTYPE_B_F_B : Statement .MBTYPE_B_F_B := fun _ => ⟨⟨.mbTypeB, rfl⟩, List.cons_ne_nil _ _⟩
theorem MBTYPE_B_F_B_P : Statement .MBTYPE_B_F_B_P := fun _ => ⟨⟨.mbTypeB, rfl⟩, List.cons_ne_nil _ _⟩
theorem MBTYPE_B_B : Statement .MBTYPE_B_B := fun _ => ⟨⟨.mbTypeB, rfl⟩, List.cons_ne_nil _ _⟩
theorem MBTYPE_B_B_P : Statement .MBTYPE_B_B_P := fun _ => ⟨⟨.mbTypeB, rfl⟩, List.cons_ne_nil _ _⟩
theorem MBTYPE_B_F : Statement .MBTYPE_B_F := fun _ => ⟨⟨.mbTypeB, rfl⟩, List.cons_ne_nil _ _⟩
theorem MBTYPE_B_F_P : Statement .MBTYPE_B_F_P := fun _ => ⟨⟨.mbTypeB, rfl⟩, List.cons_ne_nil _ _⟩
theorem MBTYPE_B_Q_F_B_P : Statement .MBTYPE_B_Q_F_B_P := fun _ => ⟨⟨.mbTypeB, rfl⟩, List.cons_ne_nil _ _⟩
theorem MBTYPE_B_I : Statement .MBTYPE_B_I := fun _ => ⟨⟨.mbTypeB, rfl⟩, List.cons_ne_nil _ _⟩
theorem MBTYPE_B_Q_I : Statement .MBTYPE_B_Q_I := fun _ => ⟨⟨.mbTypeB, rfl⟩, List.cons_ne_nil _ _⟩
theorem MBTYPE_B_Q_B_P : Statement .MBTYPE_B_Q_B_P := fun _ => ⟨⟨.mbTypeB, rfl⟩, List.cons_ne_nil _ _⟩
theorem MBTYPE_B_Q_F_P : Statement .MBTYPE_B_Q_F_P := fun _ => ⟨⟨.mbTypeB, rfl⟩, List.cons_ne_nil _ _⟩
theorem CBP_60 : Statement .CBP_60 := fun _ => ⟨⟨.cbp, rfl⟩, List.cons_ne_nil _ _⟩
theorem CBP_32 : Statement .CBP_32 := fun _ => ⟨⟨.cbp, rfl⟩, List.cons_ne_nil _ _⟩
theorem CBP_16 : Statement .CBP_16 := fun _ => ⟨⟨.cbp, rfl⟩, List.cons_ne_nil _ _⟩
theorem CBP_8 : Statement .CBP_8 := fun _ => ⟨⟨.cbp, rfl⟩, List.cons_ne_nil _ _⟩
theorem CBP_4 : Statement .CBP_4 := fun _ => ⟨⟨.cbp, rfl⟩, List.cons_ne_nil _ _⟩
theorem CBP_62 : Statement .CBP_62 := fun _ => ⟨⟨.cbp, rfl⟩, List.cons_ne_nil _ _⟩
theorem CBP_2 : Statement .CBP_2 := fun _ => ⟨⟨.cbp, rfl⟩, List.cons_ne_nil _ _⟩
theorem CBP_61 : Statement .CBP_61 := fun _ => ⟨⟨.cbp, rfl⟩, List.cons_ne_nil _ _⟩
theorem CBP_1 : Statement .CBP_1 := fun _ => ⟨⟨.cbp, rfl⟩, List.cons_ne_nil _ _⟩
theorem CBP_56 : Statement .CBP_56 := fun _ => ⟨⟨.cbp, rfl⟩, List.cons_ne_nil _ _⟩
theorem CBP_52 : Statement .CBP_52 := fun _ => ⟨⟨.cbp, rfl⟩, List.cons_ne_nil _ _⟩
theorem CBP_44 : Statement .CBP_44 := fun _ => ⟨⟨.cbp, rfl⟩, List.cons_ne_nil _ _⟩
theorem CBP_28 : Statement .CBP_28 := fun _ => ⟨⟨.cbp, rfl⟩, List.cons_ne_nil _ _⟩
theorem CBP_40 : Statement .CBP_40 := fun _ => ⟨⟨.cbp, rfl⟩, List.cons_ne_nil _ _⟩
theorem CBP_20 : Statement .CBP_20 := fun _ => ⟨⟨.cbp, rfl⟩, List.cons_ne_nil _ _⟩
theorem CBP_48 : Statement .CBP_48 := fun _ => ⟨⟨.cbp, rfl⟩, List.cons_ne_nil _ _⟩
theorem CBP_12 : Statement .CBP_12 := fun _ => ⟨⟨.cbp, rfl⟩, List.cons_ne_nil _ _⟩
theorem CBP_63 : Statement .CBP_63 := fun _ => ⟨⟨.cbp, rfl⟩, List.cons_ne_nil _ _⟩
theorem CBP_3 : Statement .CBP_3 := fun _ => ⟨⟨.cbp, rfl⟩, List.cons_ne_nil _ _⟩
theorem CBP_36 : Statement .CBP_36 := fun _ => ⟨⟨.cbp, rfl⟩, List.cons_ne_nil _ _⟩
theorem CBP_24 : Statement .CBP_24 := fun _ => ⟨⟨.cbp, rfl⟩, List.cons_ne_nil _ _⟩
theorem CBP_34 : Statement .CBP_34 := fun _ => ⟨⟨.cbp, rfl⟩, List.cons_ne_nil _ _⟩
theorem CBP_18 : Statement .CBP_18 := fun _ => ⟨⟨.cbp, rfl⟩, List.cons_ne_nil _ _⟩
theorem CBP_10 : Statement .CBP_10 := fun _ => ⟨⟨.cbp, rfl⟩, List.cons_ne_nil _ _⟩
theorem CBP_6 : Statement .CBP_6 := fun _ => ⟨⟨.cbp, rfl⟩, List.cons_ne_nil _ _⟩
theorem CBP_33 : Statement .CBP_33 := fun _ => ⟨⟨.cbp, rfl⟩, List.cons_ne_nil _ _⟩
theorem CBP_17 : Statement .CBP_17 := fun _ => ⟨⟨.cbp, rfl⟩, List.cons_ne_nil _ _⟩
theorem CBP_9 : Statement .CBP_9 := fun _ => ⟨⟨.cbp, rfl⟩, List.cons_ne_nil _ _⟩
theorem CBP_5 : Statement .CBP_5 := fun _ => ⟨⟨.cbp, rfl⟩, List.cons_ne_nil _ _⟩
theorem CBP_58 : Statement .CBP_58 := fun _ => ⟨⟨.cbp, rfl⟩, List.cons_ne_nil _ _⟩
theorem CBP_54 : Statement .CBP_54 := fun _ => ⟨⟨.cbp, rfl⟩, List.cons_ne_nil _ _⟩
theorem CBP_46 : Statement .CBP_46 := fun _ => ⟨⟨.cbp, rfl⟩, List.cons_ne_nil _ _⟩
theorem CBP_30 : Statement .CBP_30 := fun _ => ⟨⟨.cbp, rfl⟩, List.cons_ne_nil _ _⟩
theorem CBP_57 : Statement .CBP_57 := fun _ => ⟨⟨.cbp, rfl⟩, List.cons_ne_nil _ _⟩
theorem CBP_53 : Statement .CBP_53 := fun _ => ⟨⟨.cbp, rfl⟩, List.cons_ne_nil _ _⟩
theorem CBP_45 : Statement .CBP_45 := fun _ => ⟨⟨.cbp, rfl⟩, List.cons_ne_nil _ _⟩
theorem CBP_29 : Statement .CBP_29 := fun _ => ⟨⟨.cbp, rfl⟩, List.cons_ne_nil _ _⟩
theorem CBP_38 : Statement .CBP_38 := fun _ => ⟨⟨.cbp, rfl⟩, List.cons_ne_nil _ _⟩
theorem CBP_26 : Statement .CBP_26 := fun _ => ⟨⟨.cbp, rfl⟩, List.cons_ne_nil _ _⟩
theorem CBP_37 : Statement .CBP_37 := fun _ => ⟨⟨.cbp, rfl⟩, List.cons_ne_nil _ _⟩
theorem CBP_25 : Statement .CBP_25 := fun _ => ⟨⟨.cbp, rfl⟩, List.cons_ne_nil _ _⟩
theorem CBP_43 : Statement .CBP_43 := fun _ => ⟨⟨.cbp, rfl⟩, List.cons_ne_nil _ _⟩
theorem CBP_23 : Statement .CBP_23 := fun _ => ⟨⟨.cbp, rfl⟩, List.cons_ne_nil _ _⟩
theorem CBP_51 : Statement .CBP_51 := fun _ => ⟨⟨.cbp, rfl⟩, List.cons_ne_nil _ _⟩
theorem CBP_15 : Statement .CBP_15 := fun _ => ⟨⟨.cbp, rfl⟩, List.cons_ne_nil _ _⟩
theorem CBP_42 : Statement .CBP_42 := fun _ => ⟨⟨.cbp, rfl⟩, List.cons_ne_nil _ _⟩
theorem CBP_22 : Statement .CBP_22 := fun _ => ⟨⟨.cbp, rfl⟩, List.cons_ne_nil _ _⟩
theorem CBP_50 : Statement .CBP_50 := fun _ => ⟨⟨.cbp, rfl⟩, List.cons_ne_nil _ _⟩
theorem CBP_14 : Statement .CBP_14 := fun _ => ⟨⟨.cbp, rfl⟩, List.cons_ne_nil _ _⟩
theorem CBP_41 : Statement .CBP_41 := fun _ => ⟨⟨.cbp, rfl⟩, List.cons_ne_nil _ _⟩
theorem CBP_21 : Statement .CBP_21 := fun _ => ⟨⟨.cbp, rfl⟩, List.cons_ne_nil _ _⟩
theorem CBP_49 : Statement .CBP_49 := fun _ => ⟨⟨.cbp, rfl⟩, List.cons_ne_nil _ _⟩
theorem CBP_13 : Statement .CBP_13 := fun _ => ⟨⟨.cbp, rfl⟩, List.cons_ne_nil _ _⟩
theorem CBP_35 : Statement .CBP_35 := fun _ => ⟨⟨.cbp, rfl⟩, List.cons_ne_nil _ _⟩
theorem CBP_19 : Statement .CBP_19 := fun _ => ⟨⟨.cbp, rfl⟩, List.cons_ne_nil _ _⟩
theorem CBP_11 : Statement .CBP_11 := fun _ => ⟨⟨.cbp, rfl⟩, List.cons_ne_nil _ _⟩
theorem CBP_7 : Statement .CBP_7 := fun _ => ⟨⟨.cbp, rfl⟩, List.cons_ne_nil _ _⟩
theorem CBP_0 : Statement .CBP_0 := fun _ => ⟨⟨.cbp, rfl⟩, List.cons_ne_nil _ _⟩
theorem CBP_39 : Statement .CBP_39 := fun _ => ⟨⟨.cbp, rfl⟩, List.cons_ne_nil _ _⟩
theorem CBP_27 : Statement .CBP_27 := fun _ => ⟨⟨.cbp, rfl⟩, List.cons_ne_nil _ _⟩
theorem CBP_59 : Statement .CBP_59 := fun _ => ⟨⟨.cbp, rfl⟩, List.cons_ne_nil _ _⟩
theorem CBP_55 : Statement .CBP_55 := fun _ => ⟨⟨.cbp, rfl⟩, List.cons_ne_nil _ _⟩
theorem CBP_47 : Statement .CBP_47 := fun _ => ⟨⟨.cbp, rfl⟩, List.cons_ne_nil _ _⟩
theorem CBP_31 : Statement .CBP_31 := fun _ => ⟨⟨.cbp, rfl⟩, List.cons_ne_nil _ _⟩
theorem MV_0 : Statement .MV_0 := fun _ => ⟨⟨.mv, rfl⟩, List.cons_ne_nil _ _⟩
theorem MV_1 : Statement .MV_1 := fun _ => ⟨⟨.mv, rfl⟩, List.cons_ne_nil _ _⟩
theorem MV_2 : Statement .MV_2 := fun _ => ⟨⟨.mv, rfl⟩, List.cons_ne_nil _ _⟩
theorem MV_3 : Statement .MV_3 := fun _ => ⟨⟨.mv, rfl⟩, List.cons_ne_nil _ _⟩
theorem MV_4 : Statement .MV_4 := fun _ => ⟨⟨.mv, rfl⟩, List.cons_ne_nil _ _⟩
theorem MV_7 : Statement .MV_7 := fun _ => ⟨⟨.mv, rfl⟩, List.cons_ne_nil _ _⟩
theorem MV_6 : Statement .MV_6 := fun _ => ⟨⟨.mv, rfl⟩, List.cons_ne_nil _ _⟩
theorem MV_5 : Statement .MV_5 := fun _ => ⟨⟨.mv, rfl⟩, List.cons_ne_nil _ _⟩
theorem MV_10 : Statement .MV_10 := fun _ => ⟨⟨.mv, rfl⟩, List.cons_ne_nil _ _⟩
theorem MV_9 : Statement .MV_9 := fun _ => ⟨⟨.mv, rfl⟩, List.cons_ne_nil _ _⟩
theorem MV_8 : Statement .MV_8 := fun _ => ⟨⟨.mv, rfl⟩, List.cons_ne_nil _ _⟩
theorem MV_16 : Statement .MV_16 := fun _ => ⟨⟨.mv, rfl⟩, List.cons_ne_nil _ _⟩
theorem MV_15 : Statement .MV_15 := fun _ => ⟨⟨.mv, rfl⟩, List.cons_ne_nil _ _⟩
theorem MV_14 : Statement .MV_14 := fun _ => ⟨⟨.mv, rfl⟩, List.cons_ne_nil _ _⟩
theorem MV_13 : Statement .MV_13 := fun _ => ⟨⟨.mv, rfl⟩, List.cons_ne_nil _ _⟩
theorem MV_12 : Statement .MV_12 := fun _ => ⟨⟨.mv, rfl⟩, List.cons_ne_nil _ _⟩
theorem MV_11 : Statement .MV_11 := fun _ => ⟨⟨.mv, rfl⟩, List.cons_ne_nil _ _⟩
theorem DCL_1 : Statement .DCL_1 := fun _ => ⟨⟨.dcl, rfl⟩, List.cons_ne_nil _ _⟩
theorem DCL_2 : Statement .DCL_2 := fun _ => ⟨⟨.dcl, rfl⟩, List.cons_ne_nil _ _⟩
theorem DCL_0 : Statement .DCL_0 := fun _ => ⟨⟨.dcl, rfl⟩, List.cons_ne_nil _ _⟩
theorem DCL_3 : Statement .DCL_3 := fun _ => ⟨⟨.dcl, rfl⟩, List.cons_ne_nil _ _⟩
theorem DCL_4 : Statement .DCL_4 := fun _ => ⟨⟨.dcl, rfl⟩, List.cons_ne_nil _ _⟩
theorem DCL_5 : Statement .DCL_5 := fun _ => ⟨⟨.dcl, rfl⟩, List.cons_ne_nil _ _⟩
theorem DCL_6 : Statement .DCL_6 := fun _ => ⟨⟨.dcl, rfl⟩, List.cons_ne_nil _ _⟩
theorem DCL_7 : Statement .DCL_7 := fun _ => ⟨⟨.dcl, rfl⟩, List.cons_ne_nil _ _⟩
theorem DCL_8 : Statement .DCL_8 := fun _ => ⟨⟨.dcl, rfl⟩, List.cons_ne_nil _ _⟩
theorem DCL_9 : Statement .DCL_9 := fun _ => ⟨⟨.dcl, rfl⟩, List.cons_ne_nil _ _⟩
theorem DCL_10 : Statement .DCL_10 := fun _ => ⟨⟨.dcl, rfl⟩, List.cons_ne_nil _ _⟩
theorem DCL_11 : Statement .DCL_11 := fun _ => ⟨⟨.dcl, rfl⟩, List.cons_ne_nil _ _⟩
theorem DCC_0 : Statement .DCC_0 := fun _ => ⟨⟨.dcc, rfl⟩, List.cons_ne_nil _ _⟩
theorem DCC_1 : Statement .DCC_1 := fun _ => ⟨⟨.dcc, rfl⟩, List.cons_ne_nil _ _⟩
theorem DCC_2 : Statement .DCC_2 := fun _ => ⟨⟨.dcc, rfl⟩, List.cons_ne_nil _ _⟩
theorem DCC_3 : Statement .DCC_3 := fun _ => ⟨⟨.dcc, rfl⟩, List.cons_ne_nil _ _⟩
theorem DCC_4 : Statement .DCC_4 := fun _ => ⟨⟨.dcc, rfl⟩, List.cons_ne_nil _ _⟩
theorem DCC_5 : Statement .DCC_5 := fun _ => ⟨⟨.dcc, rfl⟩, List.cons_ne_nil _ _⟩
theorem DCC_6 : Statement .DCC_6 := fun _ => ⟨⟨.dcc, rfl⟩, List.cons_ne_nil _ _⟩
theorem DCC_7 : Statement .DCC_7 := fun _ => ⟨⟨.dcc, rfl⟩, List.cons_ne_nil _ _⟩
theorem DCC_8 : Statement .DCC_8 := fun _ => ⟨⟨.dcc, rfl⟩, List.cons_ne_nil _ _⟩
theorem DCC_9 : Statement .DCC_9 := fun _ => ⟨⟨.dcc, rfl⟩, List.cons_ne_nil _ _⟩
theorem DCC_10 : Statement .DCC_10 := fun _ => ⟨⟨.dcc, rfl⟩, List.cons_ne_nil _ _⟩
theorem DCC_11 : Statement .DCC_11 := fun _ => ⟨⟨.dcc, rfl⟩, List.cons_ne_nil _ _⟩
theorem DCT0_EOB : Statement .DCT0_EOB := fun _ => ⟨⟨.dct0, rfl⟩, List.cons_ne_nil _ _⟩
theorem DCT1_EOB : Statement .DCT1_EOB := fun _ => ⟨⟨.dct1, rfl⟩, List.cons_ne_nil _ _⟩

end Sys2Proof.Laws.Place
end

