-- ==== Sys2Proof/Laws/Predict.lean ====
section
/-! SUPPORT. Predictions: everything `collect` and a plane read can answer, and that a macroblock with vector (0, 0) in frame
motion over a written reference has a prediction. -/

namespace Sys2Proof.Machine

-- ---------------------------------------------------------------- lists of reads

theorem collect_ok {f : Nat → Except ReadFault Nat} {a n : Nat} {l : List Nat} (h : collect f a n = .ok l) :
    l.length = n ∧ ∀ k, k < n → f (a + k) = .ok (l.getD k 0) := by
  induction n generalizing a l with
  | zero =>
    cases h
    exact ⟨rfl, fun k hk => by omega⟩
  | succ n ih =>
    unfold collect at h
    cases hv : f a with
    | error e => rw [hv] at h; cases h
    | ok v =>
      cases hl : collect f (a + 1) n with
      | error e => rw [hv, hl] at h; cases h
      | ok t =>
        rw [hv, hl] at h
        cases h
        obtain ⟨h1, h2⟩ := ih hl
        refine ⟨by simp [h1], fun k hk => ?_⟩
        cases k with
        | zero => simpa using hv
        | succ k =>
          rw [show a + (k + 1) = a + 1 + k by omega, h2 k (by omega)]
          rfl

theorem collect_error {f : Nat → Except ReadFault Nat} {a n : Nat} {e : ReadFault} (h : collect f a n = .error e) :
    ∃ k, k < n ∧ f (a + k) = .error e := by
  induction n generalizing a with
  | zero => cases h
  | succ n ih =>
    unfold collect at h
    cases hv : f a with
    | error e' =>
      rw [hv] at h
      cases h
      exact ⟨0, by omega, hv⟩
    | ok v =>
      cases hl : collect f (a + 1) n with
      | error e' =>
        rw [hv, hl] at h
        cases h
        obtain ⟨k, hk, hf⟩ := ih hl
        exact ⟨k + 1, by omega, by rwa [show a + (k + 1) = a + 1 + k by omega]⟩
      | ok t => rw [hv, hl] at h; cases h

/-- Where every read has a value, so has the list. -/
theorem collect_total {f : Nat → Except ReadFault Nat} {a n : Nat} (h : ∀ k, k < n → ∃ v, f (a + k) = .ok v) :
    ∃ l, collect f a n = .ok l := by
  cases hc : collect f a n with
  | ok l => exact ⟨l, rfl⟩
  | error e =>
    obtain ⟨k, hk, he⟩ := collect_error hc
    obtain ⟨v, hv⟩ := h k hk
    rw [hv] at he
    cases he

-- ---------------------------------------------------------------- plane reads

theorem State.planeRead_written {s : State} {b : Fin 3} {c : Plane} {x y : Nat} (hx : x < s.planeWidth c)
    (hy : y < s.planeHeight c) (h : (s.sample b c x y).isSome) : ∃ v, s.planeRead b c x y = .ok v := by
  obtain ⟨v, hv⟩ := Option.isSome_iff_exists.1 h
  refine ⟨v.toNat, ?_⟩
  unfold State.planeRead
  rw [if_pos ⟨by omega, by omega, by omega, by omega⟩]
  simp only [Int.toNat_natCast, hv]

-- ---------------------------------------------------------------- vector (0, 0)

/-- A block of a written macroblock at vector (0, 0) in frame rows has a prediction. -/
theorem State.predBlock_zero {s : State} {ref : Fin 3} {c : Plane} (ha : s.inst.allocated = some (s.width, s.height))
    (hm : s.slc.mba < s.mbCount) (hw : s.MbWritten ref s.slc.mba) :
    ∃ l, s.predBlock ref c (mbPlaneWidth c) (mbPlaneWidth c) (mbPlaneWidth c * s.mbx) (mbPlaneWidth c * s.mby) 0 0
      .frame = .ok l := by
  have hn := mbPlaneWidth_pos c
  refine collect_total fun k hk => ?_
  have hcol : k % mbPlaneWidth c < mbPlaneWidth c := Nat.mod_lt _ hn
  have hrow : k / mbPlaneWidth c < mbPlaneWidth c := Nat.div_lt_of_lt_mul hk
  obtain ⟨hx, hy⟩ := State.mbPos_lt ha hm hrow hcol
  obtain ⟨v, hv⟩ := State.planeRead_written hx hy (hw c _ _ hrow hcol)
  refine ⟨v, ?_⟩
  simp only [Nat.zero_add, Int.zero_ediv, Int.add_zero, Int.zero_emod]
  exact hv

/-- With vector (0, 0) in frame motion a direction over a written macroblock has a prediction (R533, R547). -/
theorem State.predictDirection_zero {s : State} {d : Bool} {ref : Fin 3}
    (ha : s.inst.allocated = some (s.width, s.height)) (hm : s.slc.mba < s.mbCount) (hw : s.MbWritten ref s.slc.mba)
    (hf : s.mb.motionType = .frame) (hx : s.slc.pmvAt false d false = 0) (hy : s.slc.pmvAt false d true = 0) :
    ∃ p, s.predictDirection d ref = .ok p := by
  obtain ⟨y, h1⟩ := State.predBlock_zero (c := .y) ha hm hw
  obtain ⟨cb, h2⟩ := State.predBlock_zero (c := .cb) ha hm hw
  obtain ⟨cr, h3⟩ := State.predBlock_zero (c := .cr) ha hm hw
  refine ⟨.frame ⟨y, cb, cr⟩, ?_⟩
  have half : 16 * s.mby / 2 = 8 * s.mby := by omega
  have hc : chromaComponent 0 = 0 := rfl
  simp only [mbPlaneWidth] at h1 h2 h3
  simp only [State.predictDirection, hf, State.predTriple, hx, hy, half, hc, h1, h2, h3]
  rfl

end Sys2Proof.Machine
end

