-- ==== Sys2Proof/Laws/Rows.lean ====
section
/-! SUPPORT. What `exec` does with the rows of one table: each is the table's shared operation on the row's values. -/

namespace Sys2Proof.Machine

theorem exec_startCodeRows : ∀ r ∈ startCodeRows, ∀ s, exec r.1 s = (startCodeElem r.2 s).finish := by
  unfold startCodeRows
  repeat (refine List.forall_mem_cons.2 ⟨fun _ => rfl, ?_⟩)
  exact List.forall_mem_nil _

theorem exec_otherStartCode {i : Instr} {c : Byte} (h : OtherStartCode i c) (s : State) :
    exec i s = (startCodeElem c s).finish := by
  rcases h with h | ⟨rfl, -⟩
  · exact exec_startCodeRows _ h s
  · rfl

theorem exec_skippedIdRows : ∀ r ∈ skippedIdRows, ∀ s, exec r.1 s = (extensionSkipped r.2 s).finish := by
  unfold skippedIdRows
  repeat (refine List.forall_mem_cons.2 ⟨fun _ => rfl, ?_⟩)
  exact List.forall_mem_nil _

theorem exec_mbaRows : ∀ r ∈ mbaRows, ∀ s, exec r.1 s = (mbaCode r.2.1 r.2.2 s).finish := by
  unfold mbaRows
  repeat (refine List.forall_mem_cons.2 ⟨fun _ => rfl, ?_⟩)
  exact List.forall_mem_nil _

theorem exec_typeRows : ∀ r ∈ typeRows, ∀ s, exec r.1 s = (typeCode r.2.1 r.2.2 s).finish := by
  unfold typeRows typeIRows typePRows typeBRows
  repeat (refine List.forall_mem_cons.2 ⟨fun _ => rfl, ?_⟩)
  exact List.forall_mem_nil _

theorem exec_cbpRows : ∀ r ∈ cbpRows, ∀ s, exec r.1 s = (cbpCode r.2.1 r.2.2 s).finish := by
  unfold cbpRows
  refine List.forall_mem_append.2 ⟨?_, ?_⟩
  · unfold cbpRows1
    repeat (refine List.forall_mem_cons.2 ⟨fun _ => rfl, ?_⟩)
    exact List.forall_mem_nil _
  · unfold cbpRows2
    repeat (refine List.forall_mem_cons.2 ⟨fun _ => rfl, ?_⟩)
    exact List.forall_mem_nil _

theorem exec_mvRows : ∀ r ∈ mvRows, ∀ s, exec r.1 s = (mvCode r.2.1 r.2.2 s).finish := by
  unfold mvRows
  repeat (refine List.forall_mem_cons.2 ⟨fun _ => rfl, ?_⟩)
  exact List.forall_mem_nil _

theorem exec_dcSizeRows : ∀ r ∈ dcSizeRows, ∀ s, exec r.1 s = (dcSizeCode r.2.1 r.2.2 s).finish := by
  unfold dcSizeRows
  repeat (refine List.forall_mem_cons.2 ⟨fun _ => rfl, ?_⟩)
  exact List.forall_mem_nil _

/-- What the rows of a list of coefficient code words have in common. -/
abbrev CoefRowsExec (l : List ((Bool → Instr) × Nat × Nat × Nat)) : Prop :=
  ∀ r ∈ l, ∀ (sgn : Bool) (s : State), exec (r.1 sgn) s = (coefCode r.2.1 r.2.2.1 r.2.2.2 sgn s).finish

theorem exec_coef0Rows1 : CoefRowsExec coef0Rows1 := by
  unfold CoefRowsExec coef0Rows1
  repeat (refine List.forall_mem_cons.2 ⟨fun _ _ => rfl, ?_⟩)
  exact List.forall_mem_nil _

theorem exec_coef0Rows2 : CoefRowsExec coef0Rows2 := by
  unfold CoefRowsExec coef0Rows2
  repeat (refine List.forall_mem_cons.2 ⟨fun _ _ => rfl, ?_⟩)
  exact List.forall_mem_nil _

theorem exec_coef0Rows3 : CoefRowsExec coef0Rows3 := by
  unfold CoefRowsExec coef0Rows3
  repeat (refine List.forall_mem_cons.2 ⟨fun _ _ => rfl, ?_⟩)
  exact List.forall_mem_nil _

theorem exec_coef0Rows4 : CoefRowsExec coef0Rows4 := by
  unfold CoefRowsExec coef0Rows4
  repeat (refine List.forall_mem_cons.2 ⟨fun _ _ => rfl, ?_⟩)
  exact List.forall_mem_nil _

theorem exec_coef0Rows5 : CoefRowsExec coef0Rows5 := by
  unfold CoefRowsExec coef0Rows5
  repeat (refine List.forall_mem_cons.2 ⟨fun _ _ => rfl, ?_⟩)
  exact List.forall_mem_nil _

theorem exec_coef1Rows1 : CoefRowsExec coef1Rows1 := by
  unfold CoefRowsExec coef1Rows1
  repeat (refine List.forall_mem_cons.2 ⟨fun _ _ => rfl, ?_⟩)
  exact List.forall_mem_nil _

theorem exec_coef1Rows2 : CoefRowsExec coef1Rows2 := by
  unfold CoefRowsExec coef1Rows2
  repeat (refine List.forall_mem_cons.2 ⟨fun _ _ => rfl, ?_⟩)
  exact List.forall_mem_nil _

theorem exec_coef1Rows3 : CoefRowsExec coef1Rows3 := by
  unfold CoefRowsExec coef1Rows3
  repeat (refine List.forall_mem_cons.2 ⟨fun _ _ => rfl, ?_⟩)
  exact List.forall_mem_nil _

theorem exec_coef1Rows4 : CoefRowsExec coef1Rows4 := by
  unfold CoefRowsExec coef1Rows4
  repeat (refine List.forall_mem_cons.2 ⟨fun _ _ => rfl, ?_⟩)
  exact List.forall_mem_nil _

theorem exec_coef1Rows5 : CoefRowsExec coef1Rows5 := by
  unfold CoefRowsExec coef1Rows5
  repeat (refine List.forall_mem_cons.2 ⟨fun _ _ => rfl, ?_⟩)
  exact List.forall_mem_nil _

theorem exec_coefRows : CoefRowsExec coefRows := by
  unfold CoefRowsExec coefRows coef0Rows coef1Rows
  simp only [List.forall_mem_append]
  exact ⟨⟨⟨⟨⟨exec_coef0Rows1, exec_coef0Rows2⟩, exec_coef0Rows3⟩, exec_coef0Rows4⟩, exec_coef0Rows5⟩,
    ⟨⟨⟨⟨exec_coef1Rows1, exec_coef1Rows2⟩, exec_coef1Rows3⟩, exec_coef1Rows4⟩, exec_coef1Rows5⟩⟩

end Sys2Proof.Machine
end

