-- ==== Sys2Proof/Laws/Skip.lean ====
section
/-! SUPPORT. A run of skipped macroblocks (R452, R614): what reconstruction leaves written, and where a run stops. -/

namespace Sys2Proof.Machine

-- ---------------------------------------------------------------- samples stay written

theorem Memory.read_write_isSome {m : Memory} {a b : Nat} {v : Byte} (h : (m.read b).isSome) :
    ((m.write a v).read b).isSome := by
  by_cases e : b = a
  · rw [e, Memory.read_write_self]
    rfl
  · rwa [Memory.read_write_other v e]

theorem Memory.read_writeAll_isSome {m : Memory} {l : List Host.Cell} {b : Nat} (h : (m.read b).isSome) :
    ((m.writeAll l).read b).isSome := by
  induction l generalizing m with
  | nil => exact h
  | cons c l ih => exact ih (Memory.read_write_isSome h)

/-- Every place of a macroblock is the destination of a sample of a block (R546). -/
theorem destRowCol_surj (t : Bool) {c : Plane} {row col : Nat} (hr : row < mbPlaneWidth c) (hc : col < mbPlaneWidth c) :
    ∃ (i : Fin 6) (x y : Nat), x < 8 ∧ y < 8 ∧ blockPlane i = c ∧ destRowCol t i x y = (row, col) := by
  cases c with
  | y =>
    simp only [mbPlaneWidth] at hr hc
    cases t
    · refine ⟨⟨2 * (row / 8) + col / 8, by omega⟩, col % 8, row % 8, by omega, by omega, ?_, ?_⟩
      · simp only [blockPlane]
        rw [if_pos (by omega)]
      · simp only [destRowCol]
        rw [if_pos (by omega)]
        simp only [Prod.mk.injEq, Bool.false_eq_true, if_false]
        omega
    · refine ⟨⟨2 * (row % 2) + col / 8, by omega⟩, col % 8, row / 2, by omega, by omega, ?_, ?_⟩
      · simp only [blockPlane]
        rw [if_pos (by omega)]
      · simp only [destRowCol]
        rw [if_pos (by omega)]
        simp only [Prod.mk.injEq, if_true]
        omega
  | cb => exact ⟨4, col, row, hc, hr, rfl, rfl⟩
  | cr => exact ⟨5, col, row, hc, hr, rfl, rfl⟩

/-- `t` has the grid of `s`, and every sample written in `s` is written in `t`. -/
structure State.Extends (s t : State) : Prop where
  seq : t.seq = s.seq
  allocated : t.inst.allocated = s.inst.allocated
  curIdx : t.inst.curIdx = s.inst.curIdx
  written : ∀ n, (s.inst.fb.read n).isSome → (t.inst.fb.read n).isSome

theorem State.Extends.refl (s : State) : s.Extends s := ⟨rfl, rfl, rfl, fun _ h => h⟩

theorem State.Extends.trans {s t u : State} (h : s.Extends t) (k : t.Extends u) : s.Extends u :=
  ⟨k.seq.trans h.seq, k.allocated.trans h.allocated, k.curIdx.trans h.curIdx, fun n hn => k.written n (h.written n hn)⟩

theorem State.Extends.mbWritten {s t : State} (h : s.Extends t) {b : Fin 3} {a : Nat} (hw : s.MbWritten b a) :
    t.MbWritten b a := by
  intro c row col hr hc
  have he : t.mbAddr b a c row col = s.mbAddr b a c row col := by
    unfold State.mbAddr State.mbPos State.addr State.planeWidth State.mbWidth State.width
    rw [h.seq, h.allocated]
  have := h.written (s.mbAddr b a c row col) (hw c row col hr hc)
  rw [← he] at this
  exact this

/-- A macroblock that is reconstructed is written. -/
theorem State.reconstruct_written {s t : State} (h : s.reconstruct = .go t) :
    s.Extends t ∧ t.slc = s.slc ∧ t.MbWritten s.inst.curIdx s.slc.mba := by
  have ready : s.reconReady = true := by
    unfold State.reconstruct at h
    split at h
    · assumption
    · cases h
  obtain ⟨p, cells, res, -, -, hcells, rfl, -⟩ := State.reconstruct_go h
  have grid := ready
  simp only [State.reconReady, Bool.and_eq_true, beq_iff_eq, decide_eq_true_eq] at grid
  refine ⟨⟨rfl, rfl, rfl, fun n hn => Memory.read_writeAll_isSome hn⟩, rfl, fun c row col hr hc => ?_⟩
  obtain ⟨i, x, y, hx, hy, rfl, hd⟩ := destRowCol_surj s.mb.dctType hr hc
  have hw := State.read_reconCells grid.1 grid.2 s.inst.fb p res i hx hy
  simp only [hd, hcells] at hw
  exact Option.isSome_of_eq_some hw

-- ---------------------------------------------------------------- where a run stops

/-- The fault `f` is that of reconstruction in state `t`: no prediction is formed there, or the frame buffers have not the
current geometry. -/
def State.CannotReconstruct (t : State) (f : Fault) : Prop :=
  (∃ e, t.prediction = .error e ∧ f = e.raise t) ∨ (t.reconReady = false ∧ f = .unwritten t)

theorem State.reconstruct_fault {s : State} {f : Fault} (h : s.reconstruct = .fault f) : s.CannotReconstruct f := by
  unfold State.reconstruct at h
  split at h
  · split at h
    · rename_i e he
      cases h
      exact .inl ⟨e, he, rfl⟩
    · cases h
  · cases h
    exact .inr ⟨Bool.eq_false_iff.2 ‹_›, rfl⟩

/-- Everything a skipped macroblock can answer: it ends in the reconstruction of a state with the same grid, samples and
address, or in a Corrupt event. -/
theorem State.skippedMacroblock_cases (s : State) :
    (∃ u, s.Extends u ∧ u.slc.mba = s.slc.mba ∧ s.skippedMacroblock = u.reconstruct) ∨
    ∃ u, s.skippedMacroblock = .corrupt .skipWithoutPrediction u := by
  have ends : ∀ u : State, s.Extends u → u.slc.mba = s.slc.mba → ∀ f,
      ∃ w, s.Extends w ∧ w.slc.mba = s.slc.mba ∧ u.finishSkipped f = w.reconstruct :=
    fun u h hm f =>
      ⟨(u.onMb fun m => { m with mbType := f }).keepType, ⟨h.seq, h.allocated, h.curIdx, h.written⟩, hm, rfl⟩
  obtain ⟨s1, hs1⟩ : ∃ s1, s1 = (s.onMb fun m => { m with blk := zeroBlk, cbp := 0 }).resetDcPred.onMb
    fun m => m.setModes .frame := ⟨_, rfl⟩
  have h1 : s.Extends s1 := by
    rw [hs1]
    exact ⟨rfl, rfl, rfl, fun _ h => h⟩
  have hm : s1.slc.mba = s.slc.mba := by rw [hs1]; rfl
  unfold State.skippedMacroblock
  rw [← hs1]
  dsimp only
  split
  · exact .inl (ends (s1.onSlc fun r => { r with pmv := zeroForwardPmv r.pmv })
      ⟨h1.seq, h1.allocated, h1.curIdx, h1.written⟩ hm _)
  · split
    · split
      · exact .inl (ends s1 h1 hm _)
      · exact .inr ⟨_, rfl⟩
    · exact .inr ⟨_, rfl⟩

/-- A run of skipped macroblocks stops at one of them, with those before it written (R673), and refuses nothing. -/
theorem State.skipRun_stops {n : Nat} {s : State} :
    (∀ f, State.skipRun n s = .fault f → ∃ t, t.CannotReconstruct f ∧ s.Extends t ∧
      s.slc.mba < t.slc.mba ∧ t.slc.mba ≤ s.slc.mba + n ∧
      ∀ a, s.slc.mba < a → a < t.slc.mba → t.MbWritten t.inst.curIdx a) ∧
    ∀ r, State.skipRun n s ≠ .refuse r := by
  induction n generalizing s with
  | zero => exact ⟨fun f h => (by cases h), fun r h => (by cases h)⟩
  | succ n ih =>
    have hadv : s.Extends s.advance := ⟨rfl, rfl, rfl, fun _ h => h⟩
    obtain ⟨u, hu, hmba, he⟩ | ⟨u, he⟩ := s.advance.skippedMacroblock_cases
    · have hu := hadv.trans hu
      have hm : u.slc.mba = s.slc.mba + 1 := hmba
      simp only [State.skipRun, he]
      cases hr : u.reconstruct with
      | go v =>
        obtain ⟨hv, hslc, hw⟩ := State.reconstruct_written hr
        obtain ⟨ihf, ihr⟩ := ih (s := v)
        rw [hslc, hm] at ihf
        refine ⟨fun f h => ?_, ihr⟩
        obtain ⟨t, h1, h2, h3, h4, h5⟩ := ihf f h
        refine ⟨t, h1, (hu.trans hv).trans h2, by omega, by omega, fun a ha hb => ?_⟩
        by_cases e : a = s.slc.mba + 1
        · subst e
          rw [hm] at hw
          rw [h2.curIdx, hv.curIdx]
          exact h2.mbWritten hw
        · exact h5 a (by omega) hb
      | corrupt c v => exact ⟨fun f h => (by cases h), fun r h => (by cases h)⟩
      | fault f =>
        refine ⟨fun f' h => ?_, fun r h => by cases h⟩
        cases h
        exact ⟨u, State.reconstruct_fault hr, hu, by omega, by omega, fun a ha hb => by omega⟩
      | refuse r =>
        unfold State.reconstruct at hr
        split at hr
        · split at hr <;> cases hr
        · cases hr
    · simp only [State.skipRun, he]
      exact ⟨fun f h => (by cases h), fun r h => (by cases h)⟩

end Sys2Proof.Machine
end

