-- ==== Sys2Proof/Tests/Slice0.lean ====
section
/-! SUPPORT. Tests: ill-formed terms refused, words written out from the spec's encodings decoded, single steps with results
from the spec, and for every obligation with hypotheses a witness that meets them. -/

namespace Sys2Proof.Tests

open Sys2Proof Sys2Proof.Machine

-- ================================================================ well-formedness (R152, R153, R320, R342, R372)

theorem test_wf_slice_code :
    (Instr.slice_start_code 0x00).wf = false ∧ (Instr.slice_start_code 0xB0).wf = false ∧
    (Instr.slice_start_code 0x01).wf = true ∧ (Instr.slice_start_code 0xAF).wf = true := by decide

theorem test_wf_system_code :
    (Instr.system_start_code 0xB8).wf = false ∧ (Instr.system_start_code 0xB9).wf = true := by decide

theorem test_wf_sequence_header_matrices :
    (Instr.sequence_header_fields 16 16 1 3 0 true 0 false (some []) none).wf = false ∧
    (Instr.sequence_header_fields 16 16 1 3 0 true 0 false none (some (List.replicate 63 0))).wf = false ∧
    (Instr.sequence_header_fields 16 16 1 3 0 true 0 false (some (List.replicate 64 0)) none).wf = true := by decide

theorem test_wf_quant_matrices :
    (Instr.quant_matrix_extension_fields (some [0]) none none none).wf = false ∧
    (Instr.quant_matrix_extension_fields none (some [0]) none none).wf = false ∧
    (Instr.quant_matrix_extension_fields none none (some [0]) none).wf = false ∧
    (Instr.quant_matrix_extension_fields none none none (some (List.replicate 65 0))).wf = false := by decide

theorem test_wf_other_picture_type :
    (Instr.picture_header_other_type_fields 0 1 0 []).wf = false ∧
    (Instr.picture_header_other_type_fields 0 2 0 []).wf = false ∧
    (Instr.picture_header_other_type_fields 0 3 0 []).wf = false ∧
    (Instr.picture_header_other_type_fields 0 4 0 []).wf = true := by decide

theorem test_wf_intra_slice :
    (Instr.slice_header_fields__intra_slice 0 0 []).wf = false ∧
    (Instr.slice_header_fields__intra_slice 1 0 []).wf = true := by decide

theorem test_wf_dc_differential :
    (Instr.dct_dc_differential 0 0).wf = false ∧ (Instr.dct_dc_differential 12 0).wf = false ∧
    (Instr.dct_dc_differential 3 8).wf = false ∧ (Instr.dct_dc_differential 11 2047).wf = true := by decide

-- ================================================================ decoding: words written out from the spec

/-- The bits of an `n`-bit word, first bit most significant, zeros after it. -/
def word (n w : Nat) (k : Nat) : Bool := (natBits n w).getD k false

/-- Start codes (R152): 24 bits of prefix and the code byte. -/
theorem test_decode_start_codes :
    decode .startCode (word 32 0x00000100) 0 = some .picture_start_code ∧
    decode .startCode (word 32 0x000001AF) 0 = some (.slice_start_code 0xAF) ∧
    decode .startCode (word 32 0x000001B0) 0 = some .reserved_B0 ∧
    decode .startCode (word 32 0x000001B2) 0 = some .user_data_start_code ∧
    decode .startCode (word 32 0x000001B4) 0 = some .sequence_error_code ∧
    decode .startCode (word 32 0x000001B7) 0 = some .sequence_end_code ∧
    decode .startCode (word 32 0x000001B8) 0 = some .group_start_code ∧
    decode .startCode (word 32 0x000001FF) 0 = some (.system_start_code 0xFF) := by decide

/-- Extension identifiers (R163). -/
theorem test_decode_extension_ids :
    decode .extId (word 4 0b0001) 0 = some .extension_id_1_sequence_extension ∧
    decode .extId (word 4 0b0011) 0 = some .extension_id_3_quant_matrix_extension ∧
    decode .extId (word 4 0b1111) 0 = some .extension_id_15_reserved := by decide

/-- A sequence header of 48 by 32 (R153, and the field values of 95_test_vectors.md T-MB-2). -/
theorem test_decode_sequence_header :
    decode .seqHeader (word 64 0b0000001100000000001000000001001100000000011001000010000010000000) 0 =
      some (.sequence_header_fields 48 32 1 3 0x190 true 16 false none none) := by decide

/-- A sequence extension (R153): profile 0x48, not progressive, 4:2:0. -/
theorem test_decode_sequence_extension :
    decode .seqExt (word 48 0b000101001000001000000000000000010000000000000000) 0 =
      some (.sequence_extension_fields 0x48 false 1 0 0 0 true 0 false 0 0) := by decide

/-- A picture coding extension (R153): f_code 1, 1, 15, 15, frame structure, frame_pred_frame_dct, progressive. -/
theorem test_decode_picture_coding_extension :
    decode .picCodingExt (word 34 0b1000000100011111111100110100000010) 0 =
      some (.picture_coding_extension_fields 1 1 15 15 0 3 false true false false false false false false true none) := by
  decide

/-- A composite display flag of 1 brings 20 more bits (R153). -/
theorem test_decode_composite_display :
    decode .picCodingExt (word 54 0b100000010001111111110011010000001110101010101010101010) 0 =
      some (.picture_coding_extension_fields 1 1 15 15 0 3 false true false false false false false false true
        (some ⟨true, 0b010, true, 0b0101010, 0b10101010⟩)) := by decide

/-- A quantiser matrix extension with no matrix (R306). -/
theorem test_decode_quant_matrix :
    decode .quantMatrix (word 8 0b00110000) 0 = some (.quant_matrix_extension_fields none none none none) := by decide

/-- A GOP header (R153): 25 bits of time code, closed_gop, broken_link. -/
theorem test_decode_gop :
    decode .gop (word 27 0b000000000000100000000000010) 0 = some (.group_of_pictures_fields 0x1000 true false) := by
  decide

/-- Picture headers of each type (R153): temporal reference 1, delay 0xFFFF, forward f_code 7, one extra byte. -/
theorem test_decode_picture_headers :
    decode .picHeader (word 30 0b000000000100111111111111111110) 4 = some (.picture_header_I_fields 1 0xFFFF []) ∧
    decode .picHeader (word 34 0b0000000001010111111111111111101110) 4 =
      some (.picture_header_P_fields 1 0xFFFF false 7 []) ∧
    decode .picHeader (word 38 0b00000000010111111111111111111011111110) 4 =
      some (.picture_header_B_fields 1 0xFFFF false 7 true 7 []) ∧
    decode .picHeader (word 39 0b000000000110011111111111111111101010100) 4 =
      some (.picture_header_other_type_fields 1 4 0xFFFF [0xAA]) := by decide

/-- Slice headers (R153): quantiser code 8, then a stop bit, or an intra-slice byte and one extra byte. -/
theorem test_decode_slice_headers :
    decode .sliceHeader (word 6 0b010000) 4 = some (.slice_header_fields__no_intra_slice 8) ∧
    decode .sliceHeader (word 24 0b010001100000001010101010) 4 =
      some (.slice_header_fields__intra_slice 8 0x80 [0x55]) ∧
    decode .sliceHeader (word 6 0b000001) 4 = some (.slice_header_fields__no_intra_slice 0) := by decide

/-- Macroblock addresses (R232). -/
theorem test_decode_address_increments :
    decode .mba (word 1 0b1) 0 = some .MBA_1 ∧ decode .mba (word 3 0b011) 0 = some .MBA_2 ∧
    decode .mba (word 11 0b00000001000) 0 = some .MBA_ESC ∧ decode .mba (word 11 0b00000001111) 0 = none := by decide

/-- Macroblock types (R233 to R235). -/
theorem test_decode_macroblock_types :
    decode .mbTypeI (word 2 0b01) 0 = some .MBTYPE_I_Q_I ∧ decode .mbTypeI (word 2 0b00) 0 = none ∧
    decode .mbTypeP (word 2 0b01) 0 = some .MBTYPE_P_P ∧ decode .mbTypeP (word 6 0b000001) 0 = some .MBTYPE_P_Q_I ∧
    decode .mbTypeB (word 2 0b10) 0 = some .MBTYPE_B_F_B := by decide

/-- The fields of a macroblock (R157). -/
theorem test_decode_macroblock_fields :
    decode .frameMotionType (word 2 0b10) 0 = some (.frame_motion_type 2) ∧
    decode .dctType (word 1 0b1) 0 = some (.dct_type true) ∧
    decode .mbQuant (word 5 0b00101) 0 = some (.macroblock_quantiser_scale_code 5) ∧
    decode .fieldSelect (word 1 0b1) 0 = some (.motion_vertical_field_select true) ∧
    decode .marker (word 1 0b1) 0 = some (.concealment_marker_bit true) := by decide

/-- Coded block patterns and motion codes (R236, R237). -/
theorem test_decode_patterns_and_motion :
    decode .cbp (word 3 0b111) 0 = some .CBP_60 ∧ decode .mv (word 1 0b1) 0 = some .MV_0 ∧
    decode .mv (word 2 0b01) 0 = some .MV_1 ∧ decode .mv (word 8 0b00000010) 0 = none := by decide

/-- DC sizes and differentials (R238, R239, R372). -/
theorem test_decode_dc :
    decode .dcl (word 2 0b00) 0 = some .DCL_1 ∧ decode .dcl (word 3 0b100) 0 = some .DCL_0 ∧
    decode .dcc (word 2 0b00) 0 = some .DCC_0 ∧ decode (.dcDiff 3) (word 3 0b101) 0 = some (.dct_dc_differential 3 5) := by
  decide

/-- Coefficients (R240 to R244): run 0 level 1 in its two forms, end of block, escapes. -/
theorem test_decode_coefficients :
    decode .dct0 (word 2 0b10) 0 = some .DCT0_EOB ∧ decode .dct0First (word 2 0b10) 0 = some (.DCT0_FIRST__0_1 false) ∧
    decode .dct0 (word 3 0b110) 0 = some (.DCT0__0_1 false) ∧
    decode .dct1 (word 3 0b101) 0 = some (.DCT1__0_1 true) ∧
    decode .dct1 (word 24 0b000001111111100000000001) 0 = some (.DCT1_ESC 63 0x801) ∧
    decode .dct0 (word 12 0b000000000000) 0 = none := by decide

-- ================================================================ operand values, from 95_test_vectors.md

/-- T-DQ-1 to T-DQ-10. -/
theorem test_dequant :
    dequant true 1 16 16 = 16 ∧ dequant true (-1) 16 19 = -19 ∧ dequant true (-3) 16 16 = -48 ∧
    dequant true (-1) 2 19 = -2 ∧ dequant false 1 16 16 = 24 ∧ dequant false (-1) 16 16 = -24 ∧
    dequant false 2 62 16 = 155 ∧ dequant false (-1) 2 16 = -3 ∧ dequant false 1 1 16 = 1 ∧
    dequant true 2047 112 83 = 1189307 := by decide

/-- T-DC-2 to T-DC-11, and the examples of R372. -/
theorem test_dc_value :
    dcValue 1 1 = 1 ∧ dcValue 1 0 = -1 ∧ dcValue 2 0 = -3 ∧ dcValue 8 255 = 255 ∧ dcValue 9 255 = -256 ∧
    dcValue 11 2047 = 2047 ∧ dcValue 11 0 = -2047 ∧ dcValue 11 1023 = -1024 ∧ dcValue 3 2 = -5 ∧ dcValue 5 3 = -28 := by
  decide

/-- T-ESC-1 to T-ESC-5. -/
theorem test_escape_level :
    escapeLevel 0xFFD = -3 ∧ escapeLevel 0x7FF = 2047 ∧ escapeLevel 0x801 = -2047 ∧ forbiddenEscape 0 = true ∧
    forbiddenEscape 0x800 = true ∧ forbiddenEscape 0x801 = false := by decide

/-- T-MV-1 to T-MV-5, T-MV-8, T-MV-12 to T-MV-14. -/
theorem test_decode_vector :
    decodeVector 15 1 0 0 false = -16 ∧ decodeVector (-16) (-1) 0 0 false = 15 ∧ decodeVector 0 3 1 1 false = 6 ∧
    decodeVector 0 (-3) 1 1 false = -6 ∧ decodeVector 4 1 0 0 true = 6 ∧ decodeVector 0 (-16) 0 0 false = -16 ∧
    decodeVector (-3) (-2) 0 0 true = -8 ∧ decodeVector 0 16 255 8 false = -4096 ∧
    decodeVector 4095 1 0 8 false = -4096 := by decide

/-- T-Q-1 to T-Q-5. -/
theorem test_quantiser_scale :
    qmap false 1 = 2 ∧ qmap false 8 = 16 ∧ qmap false 31 = 62 ∧ qmap true 8 = 8 ∧ qmap true 9 = 10 ∧
    qmap true 17 = 28 ∧ qmap true 31 = 112 := by decide

/-- T-MC-9 to T-MC-14. -/
theorem test_chroma_component :
    chromaComponent 3 = 1 ∧ chromaComponent (-3) = -1 ∧ chromaComponent (-1) = 0 ∧ chromaComponent (-2) = -1 := by decide

/-- T-IDCT-2, and T-IDCT-3: the reference transform. -/
theorem test_reference_transform :
    ((refIdct (1024 :: List.replicate 63 0)).getD 17 0 = 128) ∧ ((refIdct (-4096 :: List.replicate 63 0)).getD 5 0 = -256) ∧
    ((refIdct (4 :: List.replicate 63 0)).getD 0 0 = 1) ∧ ((refIdct (-4 :: List.replicate 63 0)).getD 0 0 = -1) := by
  decide +kernel

-- ================================================================ small states

/-- A state at a place of the syntax with a packet buffer, everything else as at reset. -/
def at_ (c : Ctx) (bytes : List Byte := []) : State :=
  { State.reset with ctx := c, cmd := { CommandState.reset with pkt := bytes } }

/-- The parameters with a buffer that reads as zero past its end. -/
def zeroEnd : Params := { Params.default with pastEnd := .zero }

/-- A legal state in a picture of type `t`, 48 by 16 samples, at a place of the syntax. -/
def inPicture (t : BitVec 3) (c : Ctx) (bytes : List Byte := []) : State :=
  { State.reset with
    cfg := zeroEnd, ctx := c,
    inst := { InstanceState.reset 4 with
      phase := .decodingSlices, allocated := some (48, 16), curIdx := if t = 3 then 2 else 1 },
    seq := { SequenceRegs.reset with horizontal_size_value := 48, vertical_size_value := 16 },
    pic := { PictureRegs.reset with picture_coding_type := t },
    slc := { SliceRegs.reset with quantiser_scale_code := 8, quantiserScale := 16 },
    cmd := { CommandState.reset with pkt := bytes } }

/-- The outcome is a next state with a property. -/
def nextHas (o : Host.Outcome State Fault Refusal) (p : State → Bool) : Bool :=
  match o with
  | .next t => p t
  | _ => false

-- ================================================================ single steps

/-- T-VLC-8: an escape adds 33 to the increment and 11 bits to the cursor. -/
theorem test_step_escape_increment :
    nextHas (exec .MBA_ESC (at_ (.mba true))) (fun t => t.slc.mbaInc = 33 ∧ t.cmd.bp = 11) := by decide

/-- T-HDR-4: a slice header of code 31 gives scale 62 in row 174. -/
theorem test_step_slice_header :
    nextHas (exec (.slice_header_fields__no_intra_slice 31) (at_ .sliceHeader))
      (fun t => t.slc.quantiserScale = 62 ∧ t.cmd.bp = 6 ∧ t.slc.dcPred.y = 128) := by decide

/-- T-HDR-6 and T-ERR-1: quantiser code 0 is logged at bit 5. -/
theorem test_step_forbidden_quantiser :
    nextHas (exec (.slice_header_fields__no_intra_slice 0) (at_ .sliceHeader [0x00, 0x00, 0x00, 0x01, 0xB7]))
      (fun t => t.cmd.errLog = [.corrupt .forbiddenQuant 5] ∧ t.cmd.bp = 8) := by decide

/-- T-BLK-1: a DC differential of +16 in an intra block. -/
theorem test_step_dc :
    nextHas (exec (.dct_dc_differential 5 0b10000)
        { at_ (.dcDiff 0 5) with slc := { SliceRegs.reset with dcPred := ⟨128, 128, 128⟩ } })
      (fun t => t.slc.dcPred.y = 144 ∧ (t.mb.blk.getD 0 []).getD 0 0 = 1152) := by decide

/-- T-BLK-4: an escape of run 2 and level -3 after the DC of an intra block lands at raster position 16. -/
theorem test_step_escape :
    nextHas (exec (.DCT0_ESC 2 0xFFD)
        { at_ (.coef 0 false) with
          slc := { SliceRegs.reset with quantiserScale := 16 },
          mb := { MacroblockRegs.reset with mbType := ⟨false, false, false, false, true⟩ } })
      (fun t => (t.mb.blk.getD 0 []).getD 16 0 = -57 ∧ t.mb.coefIdx = 3) := by decide

/-- T-BLK-6: run 63 after the DC is past the block, and nothing is written. -/
theorem test_step_coefficient_overflow :
    nextHas (exec (.DCT0_ESC 63 1) { at_ (.coef 0 false) with cfg := zeroEnd })
      (fun t => t.cmd.errLog = [.corrupt .coefIndexOverflow 24] ∧ t.mb.blk = zeroBlk) := by decide

/-- T-SKU-1: a reserved start code is logged with its byte, and the cursor past it (log entry 23). -/
theorem test_step_reserved_code :
    nextHas (step { at_ (.startCode .top) [0xFF, 0x00, 0x00, 0x01, 0xB0] with
        inst := { InstanceState.reset 4 with phase := .awaitPictureStart } })
      (fun t => t.cmd.errLog = [.skippedCode 0xB0 40] ∧ t.cmd.bp = 40) := by decide

/-- T-ERR-13: a sequence header with a size of 0 is refused after its 62 bits and two load flags. -/
theorem test_step_geometry :
    exec (.sequence_header_fields 0 16 1 3 400 true 16 false none none) (at_ .seqHeader) =
      .refused (.geometry ((at_ .seqHeader).setBp 64)) := rfl

-- ================================================================ witnesses: encoding

/-- DecodeEncode: both ends of the slice codes, and every kind of operand. -/
theorem test_wit_DecodeEncode :
    (∀ i ∈ [(Instr.slice_start_code 0x01, DecCtx.startCode), (.slice_start_code 0xAF, .startCode),
        (.system_start_code 0xB9, .startCode), (.extension_id_15_reserved, .extId),
        (.sequence_header_fields 4095 0 15 0 0x3FFFF false 0 true (some (List.replicate 64 0xFF)) none, .seqHeader),
        (.picture_header_other_type_fields 1023 7 0 [0, 0xFF], .picHeader),
        (.slice_header_fields__intra_slice 31 0x80 [1], .sliceHeader), (.dct_dc_differential 11 2047, .dcDiff 11),
        (.MBA_ESC, .mba), (.DCT1_ESC 63 0xFFF, .dct1), (.DCT0_FIRST__0_1 true, .dct0First)],
      i.1.wf = true ∧ i.1.inCtx i.2 = true) ∧
    ∀ i : Instr, Agrees (fun k => (encode i).getD k false) (encode i) :=
  ⟨by decide, fun _ _ _ => rfl⟩

/-- DecodeSound: a DC differential of each end of its sizes, and a code word of a table. -/
theorem test_wit_DecodeSound :
    (∀ n, DecCtx.dcDiff 1 = .dcDiff n → 1 ≤ n ∧ n ≤ 11) ∧ (∀ n, DecCtx.dcDiff 11 = .dcDiff n → 1 ≤ n ∧ n ≤ 11) ∧
    decode (.dcDiff 11) (word 11 2047) 0 = some (.dct_dc_differential 11 2047) ∧
    (∀ n, DecCtx.dct0 = .dcDiff n → 1 ≤ n ∧ n ≤ 11) ∧ DecCtx.dct0.isTable = true ∧
    decode .dct0 (word 17 0b00000000000110111) 0 = some (.DCT0__31_1 true) :=
  ⟨fun n h => by cases h; decide, fun n h => by cases h; decide, by decide, (fun n h => nomatch h), rfl, by decide⟩

/-- CodeWordsPrefixFree and InvalidCodeSpaces: the tables are listed. -/
theorem test_wit_tables :
    dct1Table ∈ vlcTables ∧ (mvTable, [natBits 8 0b00000010, natBits 7 0b0000000]) ∈ invalidPrefixes ∧
    (dclTable, []) ∈ invalidPrefixes := by
  simp [vlcTables, invalidPrefixes]

-- ================================================================ witnesses: a step

/-- StepRunsDecoded: an element at the cursor, and start codes at and after the cursor. -/
theorem test_wit_StepRunsDecoded :
    ((∀ m, (inPicture 1 .mbType [0x80, 0, 0]).ctx ≠ .startCode m) ∧
      (inPicture 1 .mbType [0x80, 0, 0]).decCtx = some .mbTypeI ∧
      decode .mbTypeI (inPicture 1 .mbType [0x80, 0, 0]).fetchBits (inPicture 1 .mbType [0x80, 0, 0]).chainFuel =
        some .MBTYPE_I_I) ∧
    ((at_ (.startCode .top) [0, 0, 1, 0xB3]).NextPrefix 0 ∧
      decode .startCode ((at_ (.startCode .top) [0, 0, 1, 0xB3]).setBp 0).fetchBits
        ((at_ (.startCode .top) [0, 0, 1, 0xB3]).setBp 0).chainFuel = some .sequence_header_code) ∧
    ((at_ (.startCode .top) [0xFF, 0, 0, 1, 0xB7]).NextPrefix 8 ∧
      decode .startCode ((at_ (.startCode .top) [0xFF, 0, 0, 1, 0xB7]).setBp 8).fetchBits
        ((at_ (.startCode .top) [0xFF, 0, 0, 1, 0xB7]).setBp 8).chainFuel = some .sequence_end_code) :=
  ⟨⟨fun m => by simp [inPicture], rfl, by decide⟩, ⟨State.startCodePos_some (by decide), by decide⟩,
    ⟨State.startCodePos_some (by decide), by decide⟩⟩

/-- A state at a coefficient of an intra block, for the choices of R246. -/
def intraBlock (k : IntraVlc) (f : Bool) : State :=
  { at_ (.coef 0 false) with
    cfg := { zeroEnd with intraVlc := k }, pic := { PictureRegs.reset with intra_vlc_format := f },
    mb := { MacroblockRegs.reset with mbType := ⟨false, false, false, false, true⟩ } }

/-- StepRunsDecoded: each choice of a table (R246), and the bits of extension fields. -/
theorem test_wit_StepRunsDecoded_tables :
    (inPicture 1 .mbType).decCtx = some .mbTypeI ∧ (inPicture 2 .mbType).decCtx = some .mbTypeP ∧
    (inPicture 3 .mbType).decCtx = some .mbTypeB ∧
    (at_ (.dcSize 3)).decCtx = some .dcl ∧ (at_ (.dcSize 4)).decCtx = some .dcc ∧
    (intraBlock .iso true).decCtx = some .dct1 ∧ (intraBlock .iso false).decCtx = some .dct0 ∧
    (intraBlock .ignore true).decCtx = some .dct0 ∧
    (at_ (.coef 5 true)).mb.mbType.i = false ∧ (at_ (.coef 5 true)).decCtx = some .dct0First ∧
    (at_ (.coef 5 false)).decCtx = some .dct0 ∧
    (({ at_ (.seqExt .top) [0x14] with cmd := { CommandState.reset with pkt := [0x14], bp := 4 } } : State).fetchBits 3
      = true) ∧
    (at_ .cbp [0x14]).fetchBits 3 = true ∧ (at_ .cbp [0x14]).bufLen = 1 := by decide

/-- StepInvalidCode: no code word of the I type table at the cursor; a field of fixed layout. -/
theorem test_wit_StepInvalidCode :
    (inPicture 1 .mbType [0x00, 0]).decCtx = some .mbTypeI ∧
    decode .mbTypeI (inPicture 1 .mbType [0x00, 0]).fetchBits (inPicture 1 .mbType [0x00, 0]).chainFuel = none ∧
    (at_ .picHeader).decCtx = some .picHeader ∧ DecCtx.picHeader.isTable = false := by decide

/-- EndOfBuffer: a buffer with no prefix, at each place that looks for one, and each case of a picture's start. -/
theorem test_wit_EndOfBuffer :
    (∀ c, (at_ c [0, 0, 2]).NoPrefix) ∧ (at_ (.startCode .top) [0, 0, 2]).ctx = .startCode .top ∧
    (at_ (.startCode .skipSlices)).ctx = .startCode .skipSlices ∧ (at_ (.startCode .slices)).ctx = .startCode .slices ∧
    (inPicture 3 (.startCode .picExt)).Supported ∧ (inPicture 3 (.startCode .picExt)).pic.picture_structure = 3 ∧
    ({ at_ (.startCode .picExt) with
        pic := { PictureRegs.reset with picture_coding_type := 1, picture_structure := 0 } } : State).Supported ∧
    ¬ (inPicture 4 (.startCode .picExt)).Supported := by
  refine ⟨fun c => State.startCodePos_none ?_, ?_⟩
  · have h : (at_ c [0, 0, 2]).startCodePos = (at_ .idle [0, 0, 2]).startCodePos := rfl
    rw [h]
    decide
  · unfold State.Supported
    decide

-- ================================================================ witnesses: the cursor and Corrupt events

/-- BitReadAssemblesBits: bits inside the buffer and past its end. -/
theorem test_wit_BitReadAssemblesBits :
    15 < 8 * (inPicture 1 .mbType [1, 2]).bufLen ∧ 8 * (inPicture 1 .mbType [1, 2]).bufLen ≤ 16 ∧
    (inPicture 1 .mbType [1, 2]).cfg.pastEnd = .zero ∧ (inPicture 1 .mbType [1, 2]).bitRead false 0 16 = 0x0102 := by decide

/-- GetStartCode and TakeCorrupt: a prefix that ends the buffer, and none. -/
theorem test_wit_GetStartCode :
    (at_ .mbType [7, 0, 0, 1]).NextPrefix 8 ∧ (at_ .mbType [7, 0, 1]).NoPrefix :=
  ⟨State.startCodePos_some (by decide), State.startCodePos_none (by decide)⟩

/-- CorruptOnlyInSlices: an invalid type in an I picture. -/
theorem test_wit_CorruptOnlyInSlices :
    ∃ t, step (inPicture 1 .mbType [0x00, 0]) = .next t ∧
      t.cmd.errLog = (inPicture 1 .mbType [0x00, 0]).cmd.errLog ++ [.corrupt .invalidVlc 0] :=
  ⟨_, rfl, by decide⟩

/-- ForbiddenFieldValues: the places at which the fields are read, and both forbidden levels. -/
theorem test_wit_ForbiddenFieldValues :
    (at_ .sliceHeader).ctx = .sliceHeader ∧ (at_ .mbQuant).ctx = .mbQuant ∧
    (at_ .frameMotionType).ctx = .frameMotionType ∧ (at_ (.coef 5 true)).ctx = .coef 5 true ∧
    ((0 : BitVec 12) = 0 ∨ (0 : BitVec 12) = 2048) ∧ ((0x800 : BitVec 12) = 0 ∨ (0x800 : BitVec 12) = 2048) := by decide

-- ================================================================ witnesses: start codes

/-- TopLevelStartCodes: both kinds of phase, and the ends of the code ranges. -/
theorem test_wit_TopLevelStartCodes :
    (at_ (.startCode .top)).ctx = .startCode .top ∧ (at_ (.startCode .top)).inst.phase = .awaitSequenceHeader ∧
    ({ at_ (.startCode .top) with inst := { InstanceState.reset 4 with phase := .awaitPictureStart } } : State).inst.phase ≠
      .awaitSequenceHeader ∧
    isSliceCode 0x01 = true ∧ isSliceCode 0xAF = true ∧ OtherStartCode .reserved_B0 0xB0 ∧
    OtherStartCode .group_start_code 0xB8 ∧ OtherStartCode (.system_start_code 0xFF) 0xFF ∧
    Instr.system_start_code 0xFF ≠ .sequence_header_code ∧ (Instr.reserved_B6, (0xB6 : Byte)) ∈ reservedCodeRows ∧
    0xB9 ≤ (0xB9 : Byte).toNat := by
  unfold OtherStartCode
  decide

/-- SliceLoopStartCodes, PictureStarts and UnsupportedPictureSkipped: the places, and a code that ends the extensions. -/
theorem test_wit_picture_start_codes :
    (inPicture 2 (.startCode .slices)).ctx = .startCode .slices ∧
    (inPicture 2 (.startCode .picExt)).ctx = .startCode .picExt ∧ (inPicture 2 (.startCode .picExt)).Supported ∧
    (inPicture 2 (.startCode .picExt)).pic.picture_structure = 3 ∧
    ({ at_ (.startCode .picExt) with
        pic := { PictureRegs.reset with picture_coding_type := 2, picture_structure := 1 } } : State).pic.picture_structure ≠ 3 ∧
    OtherStartCode .sequence_end_code 0xB7 ∧ (0xB7 : Byte) ≠ 0xB5 ∧ (0xB7 : Byte) ≠ 0xB2 ∧
    ¬ (inPicture 4 (.startCode .picExt)).Supported ∧ ¬ (inPicture 0 (.startCode .picExt)).Supported ∧
    (at_ (.startCode .skipSlices)).ctx = .startCode .skipSlices := by
  unfold State.Supported OtherStartCode
  decide

-- ================================================================ witnesses: headers

/-- ExtensionIdentifiers: the place, both settings of `P_LOAD_MATRICES`, and a skipped identifier. -/
theorem test_wit_ExtensionIdentifiers :
    (at_ (.extId .picExt)).ctx = .extId .picExt ∧ Params.default.loadMatrices = .ignore ∧
    ({ at_ (.extId .top) with cfg := { Params.default with loadMatrices := .iso } } : State).cfg.loadMatrices = .iso ∧
    (Instr.extension_id_0_reserved, 0) ∈ skippedIdRows ∧ (Instr.extension_id_15_reserved, 15) ∈ skippedIdRows := by decide

/-- SequenceHeader: each refused size and both ends of the accepted ones; buffers of the same geometry and of none. -/
theorem test_wit_SequenceHeader :
    (at_ .seqHeader).ctx = .seqHeader ∧ ((0 : BitVec 12) = 0 ∨ (16 : BitVec 12) = 0 ∨ 2800 < (16 : BitVec 12).toNat) ∧
    ((16 : BitVec 12) = 0 ∨ (2801 : BitVec 12) = 0 ∨ 2800 < (2801 : BitVec 12).toNat) ∧
    ((1 : BitVec 12) ≠ 0 ∧ (2800 : BitVec 12) ≠ 0 ∧ (2800 : BitVec 12).toNat ≤ 2800) ∧
    (inPicture 1 .seqHeader).inst.allocated = some (16 * ((48 + 15) / 16), 16 * ((16 + 15) / 16)) ∧
    (at_ .seqHeader).inst.allocated ≠ some (16, 16) := by decide

/-- SequenceExtension: each refusal and the accepted fields. -/
theorem test_wit_SequenceExtension :
    (at_ (.seqExt .top)).ctx = .seqExt .top ∧ (2 : BitVec 2) ≠ 1 ∧ ((1 : BitVec 2) ≠ 0 ∨ (0 : BitVec 2) ≠ 0) ∧
    ((0 : BitVec 2) ≠ 0 ∨ (3 : BitVec 2) ≠ 0) := by decide

/-- QuantMatrixAndGop, PictureCodingExtension, PictureHeaders, SliceHeaders: the places, a matrix of 64, a code. -/
theorem test_wit_headers :
    (at_ (.quantMatrix .picExt)).ctx = .quantMatrix .picExt ∧ defaultIntra.length = 64 ∧ (at_ .gop).ctx = .gop ∧
    (at_ (.picCodingExt .top)).ctx = .picCodingExt .top ∧ (at_ .picHeader).ctx = .picHeader ∧
    (at_ .sliceHeader).ctx = .sliceHeader ∧ (1 : BitVec 5) ≠ 0 ∧ (31 : BitVec 5) ≠ 0 := by decide

-- ================================================================ witnesses: macroblock addresses

/-- FirstMacroblockAddress: the last column of the row, the first past it, and a row past the grid. -/
theorem test_wit_FirstMacroblockAddress :
    (Instr.MBA_3, 3, 3) ∈ mbaRows ∧ (Instr.MBA_4, 4, 4) ∈ mbaRows ∧ (inPicture 1 (.mba true)).ctx = .mba true ∧
    (inPicture 1 (.mba true)).slc.sliceRow < (inPicture 1 (.mba true)).mbHeight ∧
    (inPicture 1 (.mba true)).slc.sliceRow * (inPicture 1 (.mba true)).mbWidth +
      ((inPicture 1 (.mba true)).slc.mbaInc + 3) - 1 < (inPicture 1 (.mba true)).mbCount ∧
    (inPicture 1 (.mba true)).mbCount ≤ (inPicture 1 (.mba true)).slc.sliceRow * (inPicture 1 (.mba true)).mbWidth +
      ((inPicture 1 (.mba true)).slc.mbaInc + 4) - 1 ∧
    (inPicture 1 (.mba true)).mbHeight ≤ 1 := by decide

/-- NextMacroblockAddress: from the last but one macroblock, and from the last. -/
theorem test_wit_NextMacroblockAddress :
    (Instr.MBA_1, 1, 1) ∈ mbaRows ∧ (inPicture 1 (.mba false)).ctx = .mba false ∧
    (inPicture 1 (.mba false)).slc.mbaInc + 1 = 1 ∧ 1 + 1 < (inPicture 1 (.mba false)).mbCount ∧
    (inPicture 1 (.mba false)).mbCount ≤ 2 + 1 := by decide

/-- SkipWithoutPrediction: a skip in an I picture, and in a B picture after an intra macroblock. -/
theorem test_wit_SkipWithoutPrediction :
    (Instr.MBA_2, 3, 2) ∈ mbaRows ∧ (inPicture 1 (.mba false)).ctx = .mba false ∧
    2 ≤ (inPicture 1 (.mba false)).slc.mbaInc + 2 ∧
    (inPicture 1 (.mba false)).slc.mba + ((inPicture 1 (.mba false)).slc.mbaInc + 2) <
      (inPicture 1 (.mba false)).mbCount ∧
    (inPicture 1 (.mba false)).pic.picture_coding_type ≠ 2 ∧ (inPicture 3 (.mba false)).pic.picture_coding_type ≠ 2 ∧
    (inPicture 3 (.mba false)).mb.prevMbType.f = false ∧ (inPicture 3 (.mba false)).mb.prevMbType.b = false := by decide

/-- Samples of value 128 at `n` addresses from `base` on. -/
def run (base : Nat) : Nat → Memory
  | 0 => []
  | n + 1 => (base, 128) :: run (base + 1) n

theorem read_run {base n k : Nat} (h : k < n) (m : Memory) : (Memory.read (run base n ++ m) (base + k)).isSome := by
  induction n generalizing base k with
  | zero => omega
  | succ n ih =>
    cases k with
    | zero => simp [run, Memory.read]
    | succ k =>
      have hne : base ≠ base + (k + 1) := by omega
      simp only [run, List.cons_append, Memory.read, hne, if_false]
      have := ih (base := base + 1) (k := k) (by omega)
      rwa [show base + (k + 1) = base + 1 + k by omega]

theorem read_run_below {base n a : Nat} (m : Memory) (h : base + n ≤ a) :
    Memory.read (run base n ++ m) a = m.read a := by
  induction n generalizing base with
  | zero => rfl
  | succ n ih =>
    have hne : base ≠ a := by omega
    simp only [run, List.cons_append, Memory.read, hne, if_false]
    exact ih (by omega)

/-- A picture of type `t` whose buffer 0 has every sample written: buffer 0 is the forward reference. -/
def withReference (t : BitVec 3) (c : Ctx) (bytes : List Byte := []) : State :=
  let s := inPicture t c bytes
  { s with inst := { s.inst with
      fb := run (planeBase 0 .y) 768 ++ (run (planeBase 0 .cb) 192 ++ (run (planeBase 0 .cr) 192 ++ [])) } }

theorem withReference_size (t : BitVec 3) (c : Ctx) (bytes : List Byte) :
    (withReference t c bytes).inst.allocated =
      some ((withReference t c bytes).width, (withReference t c bytes).height) ∧
    (withReference t c bytes).mbCount = 3 ∧
    ∀ p, (withReference t c bytes).planeWidth p * (withReference t c bytes).planeHeight p =
      match p with | .y => 768 | _ => 192 := by
  have hw : (withReference t c bytes).width = 48 := by
    show roundUp16 (48 : BitVec 12).toNat = 48
    decide
  have hh : (withReference t c bytes).height = 16 := by
    show roundUp16 (16 : BitVec 12).toNat = 16
    decide
  refine ⟨by rw [hw, hh]; rfl, by simp [State.mbCount, State.mbWidth, State.mbHeight, hw, hh], fun p => ?_⟩
  cases p
  · rfl
  · show 48 / 2 * (16 / 2) = 192
    decide
  · show 48 / 2 * (16 / 2) = 192
    decide

theorem withReference_written (t : BitVec 3) (c : Ctx) (bytes : List Byte) {a : Nat} (ha : a < 3) :
    (withReference t c bytes).MbWritten 0 a := by
  intro p row col hr hc
  obtain ⟨halloc, hcount, hplane⟩ := withReference_size t c bytes
  obtain ⟨hx, hy⟩ := State.mbPos_lt halloc (by rw [hcount]; exact ha) hr hc
  unfold State.mbSample State.sample State.addr sampleAddr
  have hlt : (((withReference t c bytes).mbPos a p row col).2 * (withReference t c bytes).planeWidth p +
      ((withReference t c bytes).mbPos a p row col).1) <
      (withReference t c bytes).planeWidth p * (withReference t c bytes).planeHeight p := by
    generalize (withReference t c bytes).planeWidth p = w at *
    generalize (withReference t c bytes).planeHeight p = h at *
    calc _ < _ * w + w := Nat.add_lt_add_left hx _
      _ = (((withReference t c bytes).mbPos a p row col).2 + 1) * w := (Nat.succ_mul _ _).symm
      _ ≤ h * w := Nat.mul_le_mul_right _ hy
      _ = w * h := Nat.mul_comm _ _
  rw [hplane] at hlt
  generalize ((withReference t c bytes).mbPos a p row col).2 * (withReference t c bytes).planeWidth p +
      ((withReference t c bytes).mbPos a p row col).1 = k at hlt ⊢
  have hb : planeBase 0 .y = 0 ∧ planeBase 0 .cb = 16777216 ∧ planeBase 0 .cr = 33554432 := by decide
  show (Memory.read (run (planeBase 0 .y) 768 ++ (run (planeBase 0 .cb) 192 ++ (run (planeBase 0 .cr) 192 ++ [])))
    (planeBase 0 p + k)).isSome
  cases p with
  | y => exact read_run (show k < 768 from hlt) _
  | cb =>
    have hk : k < 192 := hlt
    rw [read_run_below _ (by omega)]
    exact read_run hk _
  | cr =>
    have hk : k < 192 := hlt
    rw [read_run_below _ (by omega), read_run_below _ (by omega)]
    exact read_run hk _

/-- SkipRunsPredict: an increment of 2 in a P picture with a written forward reference. -/
theorem test_wit_SkipRunsPredict_P :
    (Instr.MBA_2, 3, 2) ∈ mbaRows ∧ (withReference 2 (.mba false)).ctx = .mba false ∧
    2 ≤ (withReference 2 (.mba false)).slc.mbaInc + 2 ∧
    (withReference 2 (.mba false)).slc.mba + ((withReference 2 (.mba false)).slc.mbaInc + 2) <
      (withReference 2 (.mba false)).mbCount ∧
    (withReference 2 (.mba false)).pic.picture_coding_type = 2 ∧
    (withReference 2 (.mba false)).inst.allocated =
      some ((withReference 2 (.mba false)).width, (withReference 2 (.mba false)).height) ∧
    (withReference 2 (.mba false)).inst.curIdx ≠ (withReference 2 (.mba false)).inst.fwdIdx ∧
    ∀ a, 0 < a → a < 0 + 2 → (withReference 2 (.mba false)).MbWritten (withReference 2 (.mba false)).inst.fwdIdx a :=
  ⟨by decide, rfl, by decide, by decide, by decide, (withReference_size 2 _ _).1, by decide,
    fun _ _ h => withReference_written 2 (.mba false) [] (by omega)⟩

/-- Forward motion alone, with vector (0, 0) in frame motion over a written reference: the prediction is formed. -/
theorem prediction_formed {s : State} (ha : s.inst.allocated = some (s.width, s.height)) (hm : s.slc.mba < s.mbCount)
    (hw : s.MbWritten s.inst.fwdIdx s.slc.mba) (hf : s.mb.motionType = .frame)
    (ht : s.mb.mbType = ⟨false, true, false, s.mb.mbType.p, false⟩) (hp : s.slc.pmv.p0.p0 = ⟨0, 0⟩) :
    ∃ p, s.prediction = .ok p := by
  have hx : s.slc.pmvAt false false false = 0 ∧ s.slc.pmvAt false false true = 0 := by
    unfold SliceRegs.pmvAt
    simp only [Pair.get, hp, Bool.false_eq_true, if_false, if_true, and_self]
  obtain ⟨p, h⟩ := State.predictDirection_zero (d := false) ha hm hw hf hx.1 hx.2
  have h1 : s.mb.mbType.i = false ∧ s.mb.mbType.b = false ∧ s.predictsForward = true := by
    unfold State.predictsForward
    rw [ht]
    exact ⟨rfl, rfl, rfl⟩
  refine ⟨(some p, none), ?_⟩
  simp only [State.prediction, State.formPredictions, h1, h]
  rfl

/-- SkipRunsPredict in a B picture: an increment of 2 after a forward macroblock; the skipped one's prediction is formed. -/
theorem test_wit_SkipRunsPredict_B :
    let s : State := { withReference 3 (.mba false) with
      mb := { MacroblockRegs.reset with prevMbType := ⟨false, true, false, true, false⟩ } }
    s.ctx = .mba false ∧ 2 ≤ s.slc.mbaInc + 2 ∧ s.slc.mba + (s.slc.mbaInc + 2) < s.mbCount ∧
    s.pic.picture_coding_type = 3 ∧ s.mb.prevMbType.f = true ∧ s.inst.allocated = some (s.width, s.height) ∧
    s.inst.curIdx ≠ s.inst.fwdIdx ∧ s.inst.curIdx ≠ s.inst.bwdIdx ∧
    ∀ a, 0 < a → a < 0 + 2 → ∃ p, ({ s with
      slc := { s.slc with mba := a },
      mb := { s.mb with motionType := .frame, mbType := ⟨false, true, false, false, false⟩ } } : State).prediction = .ok p := by
  refine ⟨rfl, by decide, by decide, rfl, rfl, by decide, by decide, by decide, fun a _ h => ?_⟩
  have hm : a < (withReference 3 (.mba false)).mbCount := by
    rw [(withReference_size 3 (.mba false) []).2.1]
    omega
  exact prediction_formed (withReference_size 3 (.mba false) []).1 hm
    (withReference_written 3 (.mba false) [] (show a < 3 by omega)) rfl rfl rfl

-- ================================================================ witnesses: macroblock fields

/-- MacroblockTypes: a direction with and without `frame_pred_frame_dct`, and an intra type. -/
theorem test_wit_MacroblockTypes :
    (Instr.MBTYPE_P_F, 3, (⟨false, true, false, false, false⟩ : MbFlags)) ∈ typeRows ∧
    (Instr.MBTYPE_I_I, 1, (⟨false, false, false, false, true⟩ : MbFlags)) ∈ typeRows ∧
    (inPicture 2 .mbType).ctx = .mbType ∧ (inPicture 2 .mbType).pic.frame_pred_frame_dct ≠ false ∧
    ({ at_ .mbType with pic := { PictureRegs.reset with frame_pred_frame_dct := false } } : State).pic.frame_pred_frame_dct =
      false := by decide

/-- FrameMotionType, DctTypeAndQuantiser, FieldSelectAndMarker: the places; f_codes in and out of range. -/
theorem test_wit_macroblock_places :
    (at_ .frameMotionType).ctx = .frameMotionType ∧ (at_ .dctType).ctx = .dctType ∧ (at_ .mbQuant).ctx = .mbQuant ∧
    (1 : BitVec 5) ≠ 0 ∧ (at_ (.fieldSelect true false)).ctx = .fieldSelect true false ∧
    ¬ (at_ (.fieldSelect true false)).FCodeOk false false ∧
    ({ at_ (.fieldSelect true false) with
        pic := { PictureRegs.reset with f_code := ⟨⟨1, 9⟩, ⟨0, 10⟩⟩ } } : State).FCodeOk false false ∧
    (at_ .marker).ctx = .marker := by
  unfold State.FCodeOk
  decide

/-- A place in the vectors, with the f_codes at the ends of their range and a number of vectors. -/
def inVectors (v d t : Bool) (n : Nat) (bytes : List Byte := []) : State :=
  { inPicture 3 (.motionCode v d t) bytes with
    pic := { PictureRegs.reset with picture_coding_type := 3, f_code := ⟨⟨1, 9⟩, ⟨9, 10⟩⟩ },
    mb := { MacroblockRegs.reset with mvCount := n } }

/-- MotionCodes: each clause, with f_codes 1 and 9 in range and 10 out of it. -/
theorem test_wit_MotionCodes :
    (Instr.MV_16, 10, 16) ∈ mvRows ∧ (Instr.MV_0, 1, 0) ∈ mvRows ∧
    (inVectors false false false 1).FCodeOk false true ∧ ¬ (inVectors false true false 1).FCodeOk true true ∧
    (inVectors false false true 1).mb.mvCount = 1 ∧ (inVectors false true true 1).concealed = false ∧
    (inVectors false true true 2).mb.mvCount = 2 ∧ (inVectors true true true 2).ctx = .motionCode true true true := by
  unfold State.FCodeOk
  decide

/-- CodedBlockPattern: the first coded block is block 0, and block 5. -/
theorem test_wit_CodedBlockPattern :
    (∃ r ∈ cbpRows, r.2.2.getLsbD 5 = true) ∧
    (∃ r ∈ cbpRows, r.2.2.getLsbD 0 = true ∧ ∀ j : Fin 6, j.val < 5 → r.2.2.getLsbD (5 - j.val) = false) ∧
    (at_ .cbp).ctx = .cbp ∧ (at_ .cbp).mb.mbType.i = false ∧
    ({ at_ .cbp with mb := { MacroblockRegs.reset with mbType := ⟨false, false, false, false, true⟩ } } : State).mb.mbType.i =
      true := by decide

-- ================================================================ witnesses: blocks

/-- DcCoefficients: sizes 0 and 11, and the ends of the differentials. -/
theorem test_wit_DcCoefficients :
    (Instr.DCL_0, 3, 0) ∈ dcSizeRows ∧ (Instr.DCC_11, 10, 11) ∈ dcSizeRows ∧ (at_ (.dcSize 4)).ctx = .dcSize 4 ∧
    (at_ (.dcDiff 5 11)).ctx = .dcDiff 5 11 ∧ 1 ≤ 1 ∧ 0 < 2 ^ 1 ∧ 1 ≤ 11 ∧ 2047 < 2 ^ 11 := by decide

/-- Coefficients and EscapedCoefficients: the last position of a block, and the first past it. -/
theorem test_wit_Coefficients :
    (∃ r ∈ coefRows, r.2.2.1 = 0) ∧ (at_ (.coef 5 true)).ctx = .coef 5 true ∧
    ({ at_ (.coef 5 false) with mb := { MacroblockRegs.reset with coefIdx := 62 } } : State).mb.coefIdx + (0 : Nat) + 1 < 64 ∧
    64 ≤ ({ at_ (.coef 5 false) with mb := { MacroblockRegs.reset with coefIdx := 63 } } : State).mb.coefIdx + (0 : Nat) + 1 ∧
    -1 ≤ ({ at_ (.coef 0 true) with mb := { MacroblockRegs.reset with coefIdx := -1 } } : State).mb.coefIdx ∧
    (0x801 : BitVec 12) ≠ 0 ∧ (0x801 : BitVec 12) ≠ 2048 ∧ (-1 : Int) + (63 : BitVec 6).toNat + 1 < 64 ∧
    Instr.DCT1_ESC ∈ [Instr.DCT0_ESC, Instr.DCT1_ESC] := by
  refine ⟨⟨(.DCT0__0_1, 2, 0, 1), ?_, rfl⟩, rfl, by decide, by decide, by decide, by decide, by decide, by decide, ?_⟩
  · simp [coefRows, coef0Rows, coef0Rows1]
  · simp

/-- EndOfBlock: the next block, and a later one with none coded between. -/
theorem test_wit_EndOfBlock :
    (Instr.DCT1_EOB, 4) ∈ [(Instr.DCT0_EOB, 2), (Instr.DCT1_EOB, 4)] ∧ (at_ (.coef 0 false)).ctx = .coef 0 false ∧
    (33 : BitVec 6).getLsbD (5 - (5 : Fin 6).val) = true ∧
    ∀ j : Fin 6, (0 : Fin 6).val < j.val → j.val < (5 : Fin 6).val → (33 : BitVec 6).getLsbD (5 - j.val) = false := by
  decide

/-- CoefficientControl, DcRoundTrip and VectorWrapsIntoRange: the ends of the ranges. -/
theorem test_wit_block_values :
    (List.replicate 64 (4096 : Int)).length = 64 ∧ ((-2047 : Int) ≠ 0 ∧ (-2047 : Int).natAbs ≤ 2047) ∧
    ((1 : Int) ≠ 0 ∧ (1 : Int).natAbs ≤ 2047) ∧
    (0 ≤ (-4096 : Int) + 16 * 2 ^ 8 ∧ (4095 : Int) < 16 * 2 ^ 8 ∧ (-16 : Int) ≤ -16 ∧ (16 : Int) ≤ 16 ∧ 255 < 2 ^ 8) := by
  decide

/-- InverseTransformProperties and ReferenceTransformIsExact: the zero block and both ends of the DC range. -/
theorem test_wit_inverse_transform :
    (List.replicate 64 (0 : Int)).length = 64 ∧ ((2040 : Int) :: List.replicate 63 0).length = 64 ∧
    ((2040 : Int) % 8 = 0 ∧ (2040 : Int).natAbs ≤ 2040) ∧ ((-2040 : Int) % 8 = 0 ∧ (-2040 : Int).natAbs ≤ 2040) := by
  decide

-- ================================================================ witnesses: prediction and reconstruction

/-- PredictionSamples: a written sample at the first position, an unwritten one at the last, and positions outside; the four
reads of an interpolation; blocks with and without a prediction. -/
theorem test_wit_PredictionSamples :
    (withReference 2 .cbp).sample 0 .y 0 0 = some 128 ∧ (withReference 2 .cbp).sample 1 .y 47 15 = none ∧
    (withReference 2 .cbp).planeWidth .y = 48 ∧ (withReference 2 .cbp).planeHeight .cr = 8 ∧
    (withReference 2 .cbp).planeRead 0 .y 0 0 = .ok 128 ∧ (withReference 2 .cbp).planeRead 0 .y 1 0 = .ok 128 ∧
    (withReference 2 .cbp).planeRead 0 .y 0 1 = .ok 128 ∧ (withReference 2 .cbp).planeRead 0 .y 1 1 = .ok 128 ∧
    (withReference 2 .cbp).predSample 0 .y .frame 47 0 true false = .error .refOutOfRange ∧
    (withReference 2 .cbp).predBlock 0 .y 2 1 0 0 1 1 (.field true) = .ok [128, 128] ∧
    (withReference 2 .cbp).predBlock 1 .cb 1 1 0 0 0 0 .frame = .error .unwrittenSample := by
  refine ⟨by decide, by decide +kernel, by decide, by decide, rfl, rfl, by decide +kernel, by decide +kernel,
    by decide +kernel, by decide +kernel, by decide +kernel⟩

/-- PredictionFollowsVectors: frame and field motion with a prediction, a vector out of the plane, an unwritten reference; each
kind of direction. -/
theorem test_wit_PredictionFollowsVectors :
    let s : State := { withReference 3 .cbp with
      mb := { MacroblockRegs.reset with mbType := ⟨false, true, false, true, false⟩, motionType := .frame } }
    let field : State := { s with
      mb := { s.mb with motionType := .field },
      slc := { s.slc with pmv := ⟨⟨⟨1, -2⟩, ⟨0, 0⟩⟩, ⟨⟨1, 2⟩, ⟨0, 0⟩⟩⟩, mvfs := ⟨⟨false, false⟩, ⟨true, false⟩⟩ } }
    (∃ p, s.predictDirection false s.inst.fwdIdx = .ok p) ∧
    field.predictDirection false s.inst.fwdIdx = .error .refOutOfRange ∧
    s.predictDirection true s.inst.bwdIdx = .error .unwrittenSample ∧
    s.mb.mbType.i = false ∧ s.mb.mbType.f = true ∧ s.mb.mbType.b = false ∧
    ¬ ((inPicture 3 .cbp).mb.mbType.f = true ∨ (inPicture 3 .cbp).pic.picture_coding_type = 2) := by
  refine ⟨?_, by decide +kernel, by decide +kernel, rfl, rfl, rfl, by decide⟩
  have hm : 0 < (withReference 3 .cbp).mbCount := by
    rw [(withReference_size 3 .cbp []).2.1]
    decide
  exact State.predictDirection_zero (d := false) (withReference_size 3 .cbp []).1 hm
    (withReference_written 3 .cbp [] (show 0 < 3 by decide)) rfl rfl rfl

/-- ReconstructionWritesMacroblock and LastBlockEndsMacroblock: the last block of an intra macroblock. -/
theorem test_wit_intra_macroblock :
    let s : State := { inPicture 1 (.coef 5 false) with
      mb := { MacroblockRegs.reset with mbType := ⟨false, false, false, false, true⟩, cbp := 63 } }
    s.ctx = .coef 5 false ∧ s.mb.mbType.i = true ∧
    (∀ j : Fin 6, (5 : Fin 6).val < j.val → s.mb.cbp.getLsbD (5 - j.val) = false) ∧
    s.inst.allocated = some (s.width, s.height) ∧ s.slc.mba < s.mbCount ∧ s.mb.blk.length = 6 ∧
    s.prediction = .ok (none, none) := by
  refine ⟨rfl, rfl, by decide, by decide, by decide, rfl, rfl⟩

/-- LastBlockEndsMacroblock and State.PatternDue (MotionCodes, MacroblockTypes): a non-intra macroblock with a prediction, one
whose reference is unwritten and one whose vector leaves the plane; types with neither pattern nor intra. -/
theorem test_wit_macroblock_ends :
    let flags : MbFlags := ⟨false, true, false, false, false⟩
    let s : State := { withReference 2 (.motionCode false false true) with
      mb := { MacroblockRegs.reset with mbType := flags, motionType := .frame } }
    let out : State := { s with slc := { s.slc with pmv := ⟨⟨⟨-2, 0⟩, ⟨0, 0⟩⟩, ⟨⟨-2, 0⟩, ⟨0, 0⟩⟩⟩ } }
    s.mb.mbType.p = false ∧ s.mb.mbType.i = false ∧ s.mb.mvCount = 1 ∧ (Instr.MBTYPE_P_F, 3, flags) ∈ typeRows ∧
    s.inst.allocated = some (s.width, s.height) ∧ s.slc.mba < s.mbCount ∧
    (∃ p, s.afterResets.prediction = .ok p) ∧
    out.afterResets.prediction = .error .refOutOfRange ∧
    (inPicture 2 .cbp).afterResets.prediction = .error .unwrittenSample := by
  refine ⟨rfl, rfl, rfl, by decide, by decide, by decide, ?_, by decide +kernel, by decide +kernel⟩
  have hm : 0 < (withReference 2 (.motionCode false false true)).mbCount := by
    rw [(withReference_size 2 (.motionCode false false true) []).2.1]
    decide
  exact prediction_formed (withReference_size 2 (.motionCode false false true) []).1 hm
    (withReference_written 2 (.motionCode false false true) [] (show 0 < 3 by decide)) rfl rfl rfl

/-- ZeroMotionCopies: forward motion of 0, and no motion, over a written reference. -/
theorem test_wit_ZeroMotionCopies :
    ∀ f : Bool,
      let s : State := { withReference 2 .cbp with
        mb := { MacroblockRegs.reset with mbType := ⟨false, f, false, true, false⟩, motionType := .frame } }
      s.ctx = .cbp ∧ s.pic.picture_coding_type = 2 ∧ s.mb.mbType.i = false ∧ s.mb.mbType.b = false ∧
      (s.mb.mbType.f = true → s.mb.motionType = .frame ∧ s.slc.pmv.p0.p0 = ⟨0, 0⟩) ∧
      s.mb.blk = List.replicate 6 (List.replicate 64 0) ∧ s.inst.allocated = some (s.width, s.height) ∧
      s.slc.mba < s.mbCount ∧ s.MbWritten s.inst.fwdIdx s.slc.mba := by
  intro f
  have hm : 0 < (withReference 2 .cbp).mbCount := by
    rw [(withReference_size 2 .cbp []).2.1]
    decide
  exact ⟨rfl, rfl, rfl, rfl, fun _ => ⟨rfl, rfl⟩, rfl, (withReference_size 2 .cbp []).1, hm,
    withReference_written 2 .cbp [] (show 0 < 3 by decide)⟩

-- ================================================================ witnesses: host commands

/-- A state whose ring holds two pictures. -/
def withRing (c : List Command) : State :=
  { State.reset with
    inst := { InstanceState.reset 4 with
      phase := .pictureComplete, allocated := some (16, 16),
      ring := [{ Slot.empty with pts := 100 }, { Slot.empty with pts := 300 }, .empty, .empty] },
    seq := { SequenceRegs.reset with horizontal_size_value := 16, vertical_size_value := 16 }, inbox := c }

/-- LookupFindsNearest: a tie goes to the lower slot; no slot at reset. -/
theorem test_wit_LookupFindsNearest :
    (withRing []).lookup 200 = some 0 ∧ (withRing []).lookup 201 = some 1 ∧ State.reset.lookup 0 = none := by decide

/-- HostCommands: each command, in and out of range, in each kind of phase. -/
theorem test_wit_HostCommands :
    (∀ c, (withRing c).ctx = .idle ∧ (withRing c).inbox = c) ∧ (withRing []).inst.phase ≠ .failed ∧
    ({ withRing [] with inst := { InstanceState.reset 4 with phase := .failed } } : State).inst.phase = .failed ∧
    (withRing []).inst.ring[3]? = some .empty ∧ (withRing []).inst.ring[4]? = none ∧
    (15 < (withRing []).planeWidth .y ∧ 15 < (withRing []).planeHeight .y) ∧
    ¬ (8 < (withRing []).planeWidth .cb ∧ 0 < (withRing []).planeHeight .cb) :=
  ⟨fun _ => ⟨rfl, rfl⟩, by decide, rfl, by decide, by decide, by decide, by decide⟩

-- ================================================================ witnesses: invariants

/-- The picture states are legal. -/
theorem inPicture_legal (t : BitVec 3) (ht : t = 1 ∨ t = 2 ∨ t = 3) (c : Ctx) (bytes : List Byte) :
    (inPicture t c bytes).Legal where
  memory := List.Pairwise.nil
  roles := ⟨rfl, .inl ⟨rfl, rfl⟩, by
    rcases ht with rfl | rfl | rfl
    exacts [(by decide : (1 : Fin 3) ≠ 0), (by decide : (1 : Fin 3) ≠ 0), (by decide : (2 : Fin 3) ≠ 0)]⟩
  ring := ⟨rfl, by show 0 < 4; decide⟩
  matrices := ⟨rfl, rfl⟩
  blocks := ⟨rfl, by show ∀ b ∈ zeroBlk, b.length = 64; decide⟩
  geometry := fun _ => ⟨(withReference_size t c bytes).1,
    by show 0 < (withReference t c bytes).mbCount; rw [(withReference_size t c bytes).2.1]; decide⟩
  picture := fun _ => ⟨ht, rfl, by rcases ht with rfl | rfl | rfl <;> rfl⟩
  modes := .inr ⟨by show MotionType.none ≠ .field; decide, rfl, rfl, rfl⟩
  row := Nat.zero_le _

/-- Macroblock types are due in a legal state: StepKeepsInvariant, NeverUnwritten, PredictionIgnoresCurrentBuffer. -/
theorem test_wit_invariant :
    (inPicture 1 .mbType [0x80, 0]).Inv ∧ (∃ t, step (inPicture 1 .mbType [0x80, 0]) = .next t) ∧
    (inPicture 2 .cbp).inst.phase = .decodingSlices ∧ (inPicture 2 .cbp).typeOk (inPicture 2 .cbp).mb.mbType :=
  ⟨⟨inPicture_legal 1 (.inl rfl) _ _, ⟨rfl, ⟨by decide, by decide, by decide, by decide⟩, fun h => by cases h⟩, by decide⟩,
    ⟨_, rfl⟩, rfl, fun h => by cases h⟩

/-- FailedIsFinal: a failed instance with a decode command waiting. -/
theorem test_wit_FailedIsFinal :
    let s : State := { State.reset with
      inst := { InstanceState.reset 4 with phase := .failed }, inbox := [.decode [] 0] }
    s.Inv ∧ s.inst.phase = .failed ∧ s.inbox.head? ≠ some .create ∧ ∃ t, step s = .next t := by
  refine ⟨⟨⟨List.Pairwise.nil, ⟨rfl, .inl ⟨rfl, rfl⟩, by decide⟩, ⟨rfl, by decide⟩, ⟨rfl, rfl⟩, ⟨rfl, by decide⟩, ?_, ?_,
    .inr (by decide), Nat.zero_le _⟩, ?_⟩, rfl, by decide, ⟨_, rfl⟩⟩
  · rintro (h | h | h) <;> cases h
  · intro h
    cases h
  · show Phase.failed ≠ .decodingSlices
    decide

/-- CommandStateFrame and AddressFrame, stops: a refused field, and a skip run that stops at its first macroblock, for a sample
nothing has written and for want of frame buffers (R673). -/
theorem test_wit_stops :
    StopsWith (exec (.frame_motion_type 3) (at_ .frameMotionType)) ((at_ .frameMotionType).consume 2) ∧
    (match exec .MBA_2 (inPicture 2 (.mba false)) with
      | .fault (.unwrittenSample t) =>
        t.slc.mba == 1 && t.cmd.bp == 3 && t.slc.dcPred.y == 128 &&
          (match t.prediction with
            | .error e => e == .unwrittenSample
            | .ok _ => false)
      | _ => false) = true ∧
    (match exec .MBA_2 { inPicture 2 (.mba false) with
        inst := { InstanceState.reset 4 with phase := .decodingSlices } } with
      | .fault (.unwritten t) => t.slc.mba == 1 && t.inst.allocated == none
      | _ => false) = true :=
  ⟨.inr ⟨_, rfl, rfl⟩, by decide +kernel, by decide +kernel⟩

/-- The frames: a next state of a header element, a macroblock element and an address increment. -/
theorem test_wit_frames :
    (∃ t, exec (.slice_header_fields__no_intra_slice 8) (at_ .sliceHeader) = .next t) ∧
    (Instr.slice_header_fields__no_intra_slice 8).inCtx .sliceHeader = true ∧
    (∃ t, exec .MBTYPE_I_I (inPicture 1 .mbType) = .next t) ∧ Instr.MBTYPE_I_I.inCtx .mbTypeI = true ∧
    (Instr.dct_dc_differential 11 0).inCtx (.dcDiff 11) = true ∧
    (∃ t, exec (.dct_dc_differential 11 0) (inPicture 1 (.dcDiff 0 11)) = .next t) ∧
    (∃ t, exec .MBA_1 (inPicture 1 (.mba true)) = .next t) ∧ (Instr.MBA_1, 1, 1) ∈ mbaRows :=
  ⟨⟨_, rfl⟩, by decide, ⟨_, rfl⟩, by decide, by decide, ⟨_, rfl⟩, ⟨_, rfl⟩, by decide⟩

end Sys2Proof.Tests
end

section
/-! PROOFS. Prediction samples (R107, R108, R535, R539): what a plane read, a row of a mode, one sample of a block, a block
and an average answer. -/

namespace Sys2Proof.Machine

-- ---------------------------------------------------------------- plane reads (R108, R540)

section PlaneRead
variable {s : State} {b : Fin 3} {c : Plane} {x y : Int}

theorem State.planeRead_outside (h : ¬ (0 ≤ x ∧ x < s.planeWidth c ∧ 0 ≤ y ∧ y < s.planeHeight c)) :
    s.planeRead b c x y = .error .refOutOfRange := if_neg h

theorem State.planeRead_unwritten (h : 0 ≤ x ∧ x < s.planeWidth c ∧ 0 ≤ y ∧ y < s.planeHeight c)
    (hn : s.sample b c x.toNat y.toNat = none) : s.planeRead b c x y = .error .unwrittenSample := by
  simp [State.planeRead, h, hn]

theorem State.planeRead_sample {v : Byte} (h : 0 ≤ x ∧ x < s.planeWidth c ∧ 0 ≤ y ∧ y < s.planeHeight c)
    (hv : s.sample b c x.toNat y.toNat = some v) : s.planeRead b c x y = .ok v.toNat := by
  simp [State.planeRead, h, hv]

end PlaneRead

-- ---------------------------------------------------------------- rows of a field (R107)

/-- Every plane is a whole number of macroblocks high, so its two fields have the same number of rows. -/
theorem State.planeHeight_even {s : State} (h : s.inst.allocated = some (s.width, s.height)) (c : Plane) :
    s.planeHeight c % 2 = 0 := by
  rw [State.planeHeight_eq h]
  cases c <;> simp only [mbPlaneWidth] <;> omega

theorem State.fieldRow_inside_iff {s : State} (h : s.inst.allocated = some (s.width, s.height)) (c : Plane) (f : Bool)
    (y : Int) :
    (0 ≤ (PredMode.field f).row y ∧ (PredMode.field f).row y < s.planeHeight c) ↔
      0 ≤ y ∧ y < ((s.planeHeight c / 2 : Nat) : Int) := by
  have he := State.planeHeight_even h c
  cases f <;> simp only [PredMode.row, if_true, Bool.false_eq_true, if_false] <;> omega

-- ---------------------------------------------------------------- one sample (R535)

/-- A sequence of reads stops at its first read or in the rest. -/
theorem readBind_error {α β : Type} {r : Except ReadFault α} {k : α → Except ReadFault β} {e : ReadFault}
    (h : r >>= k = .error e) : r = .error e ∨ ∃ a, k a = .error e := by
  cases r with
  | error e' => exact .inl (by cases h; rfl)
  | ok a => exact .inr ⟨a, h⟩

/-- A read whose value only goes through a function stops where the read does. -/
theorem readBind_pure_error {α β : Type} {r : Except ReadFault α} {g : α → β} {e : ReadFault}
    (h : (r >>= fun a => pure (g a)) = .error e) : r = .error e := by
  obtain h | ⟨_, h⟩ := readBind_error h
  · exact h
  · cases h

section PredSample
variable {s : State} {ref : Fin 3} {c : Plane} {m : PredMode} {x y : Int} {p q u v : Nat}

theorem State.predSample_copy (hp : s.planeRead ref c x (m.row y) = .ok p) :
    s.predSample ref c m x y false false = .ok p := hp

theorem State.predSample_across (hp : s.planeRead ref c x (m.row y) = .ok p)
    (hq : s.planeRead ref c (x + 1) (m.row y) = .ok q) :
    s.predSample ref c m x y true false = .ok ((p + q + 1) / 2) := by
  simp only [State.predSample, State.refRead, hp, hq]
  rfl

theorem State.predSample_down (hp : s.planeRead ref c x (m.row y) = .ok p)
    (hq : s.planeRead ref c x (m.row (y + 1)) = .ok q) :
    s.predSample ref c m x y false true = .ok ((p + q + 1) / 2) := by
  simp only [State.predSample, State.refRead, hp, hq]
  rfl

theorem State.predSample_four (hp : s.planeRead ref c x (m.row y) = .ok p)
    (hq : s.planeRead ref c (x + 1) (m.row y) = .ok q) (hu : s.planeRead ref c x (m.row (y + 1)) = .ok u)
    (hv : s.planeRead ref c (x + 1) (m.row (y + 1)) = .ok v) :
    s.predSample ref c m x y true true = .ok ((p + q + u + v + 2) / 4) := by
  simp only [State.predSample, State.refRead, hp, hq, hu, hv]
  rfl

/-- A sample without a value has a read without one, among those its half flags name. -/
theorem State.predSample_error {hx hy : Bool} {e : ReadFault} (h : s.predSample ref c m x y hx hy = .error e) :
    ∃ i j : Nat, i ≤ hx.toNat ∧ j ≤ hy.toNat ∧ s.planeRead ref c (x + i) (m.row (y + j)) = .error e := by
  suffices hr : s.refRead ref c m x y = .error e ∨ (hx = true ∧ s.refRead ref c m (x + 1) y = .error e) ∨
      (hy = true ∧ s.refRead ref c m x (y + 1) = .error e) ∨
      (hx = true ∧ hy = true ∧ s.refRead ref c m (x + 1) (y + 1) = .error e) by
    obtain hr | ⟨rfl, hr⟩ | ⟨rfl, hr⟩ | ⟨rfl, rfl, hr⟩ := hr
    · exact ⟨0, 0, Nat.zero_le _, Nat.zero_le _, by simpa [State.refRead] using hr⟩
    · exact ⟨1, 0, le_rfl, Nat.zero_le _, by simpa [State.refRead] using hr⟩
    · exact ⟨0, 1, Nat.zero_le _, le_rfl, by simpa [State.refRead] using hr⟩
    · exact ⟨1, 1, le_rfl, le_rfl, by simpa [State.refRead] using hr⟩
  match hx, hy with
  | false, false => exact .inl h
  | true, false =>
    obtain h | ⟨_, h⟩ := readBind_error h
    · exact .inl h
    · exact .inr (.inl ⟨rfl, readBind_pure_error h⟩)
  | false, true =>
    obtain h | ⟨_, h⟩ := readBind_error h
    · exact .inl h
    · exact .inr (.inr (.inl ⟨rfl, readBind_pure_error h⟩))
  | true, true =>
    obtain h | ⟨_, h⟩ := readBind_error h
    · exact .inl h
    obtain h | ⟨_, h⟩ := readBind_error h
    · exact .inr (.inl ⟨rfl, h⟩)
    obtain h | ⟨_, h⟩ := readBind_error h
    · exact .inr (.inr (.inl ⟨rfl, h⟩))
    · exact .inr (.inr (.inr ⟨rfl, rfl, readBind_pure_error h⟩))

end PredSample

-- ---------------------------------------------------------------- blocks (R535)

section PredBlock
variable {s : State} {ref : Fin 3} {c : Plane} {w h bx by_ : Nat} {vx vy : Int} {m : PredMode}

theorem State.predBlock_ok {l : List Nat} (hl : s.predBlock ref c w h bx by_ vx vy m = .ok l) :
    l.length = w * h ∧ ∀ xx yy, xx < w → yy < h →
      s.predSample ref c m (bx + xx + vx / 2) (by_ + yy + vy / 2) (decide (vx % 2 = 1)) (decide (vy % 2 = 1)) =
        .ok (l.getD (yy * w + xx) 0) := by
  obtain ⟨hlen, hget⟩ := collect_ok hl
  refine ⟨hlen, fun xx yy hxx hyy => ?_⟩
  have hlt : yy * w + xx < w * h := by
    calc yy * w + xx < w * (yy + 1) := by rw [Nat.mul_succ, Nat.mul_comm]; omega
      _ ≤ w * h := Nat.mul_le_mul_left w hyy
  have hcol : (yy * w + xx) % w = xx := Nat.mul_add_mod_of_lt hxx
  have hrow : (yy * w + xx) / w = yy := by
    rw [Nat.mul_comm, Nat.mul_add_div (by omega), Nat.div_eq_of_lt hxx, Nat.add_zero]
  have hk := hget (yy * w + xx) hlt
  rwa [Nat.zero_add, hcol, hrow, Nat.cast_add, Nat.cast_add] at hk

theorem State.predBlock_error {e : ReadFault} (he : s.predBlock ref c w h bx by_ vx vy m = .error e) :
    ∃ xx yy : Nat, xx < w ∧ yy < h ∧
      s.predSample ref c m (bx + xx + vx / 2) (by_ + yy + vy / 2) (decide (vx % 2 = 1)) (decide (vy % 2 = 1)) =
        .error e := by
  obtain ⟨k, hk, hf⟩ := collect_error he
  have hw : 0 < w := Nat.pos_of_mul_pos_right (by omega : 0 < w * h)
  refine ⟨k % w, k / w, Nat.mod_lt _ hw, Nat.div_lt_of_lt_mul hk, ?_⟩
  rwa [Nat.zero_add, Nat.cast_add, Nat.cast_add] at hf

end PredBlock

-- ---------------------------------------------------------------- destination rows (R535)

section Destination
variable (a b : Triple (List Nat)) (c : Plane) (yy col : Nat)

theorem DirPred.sample_fields_top :
    (DirPred.fields a b).sample c (2 * yy) col = (a.get c).getD (yy * mbPlaneWidth c + col) 0 := by
  have hr : 2 * yy % 2 = 0 := by omega
  have hq : 2 * yy / 2 = yy := by omega
  simp only [DirPred.sample, hr, hq, if_true]

theorem DirPred.sample_fields_bottom :
    (DirPred.fields a b).sample c (2 * yy + 1) col = (b.get c).getD (yy * mbPlaneWidth c + col) 0 := by
  have hr : (2 * yy + 1) % 2 = 1 := by omega
  have hq : (2 * yy + 1) / 2 = yy := by omega
  simp only [DirPred.sample, hr, hq, one_ne_zero, if_false]

end Destination

/-- Settles O45: each clause is what the lemmas above say of its read, row, sample, block or average. -/
theorem predictionSamples : Obligations.PredictionSamples := by
  refine ⟨fun s b c x y => ⟨State.planeRead_outside, State.planeRead_unwritten, fun _ => State.planeRead_sample⟩,
    fun s c f y ha => ⟨rfl, rfl, State.fieldRow_inside_iff ha c f y⟩,
    fun s ref c m x y p q u v => ⟨State.predSample_copy, State.predSample_across, State.predSample_down,
      State.predSample_four, fun _ _ _ => State.predSample_error⟩,
    fun s ref c w h bx by_ vx vy m => ⟨fun _ => State.predBlock_ok, fun _ => State.predBlock_error⟩,
    fun a b c yy col => ⟨rfl, DirPred.sample_fields_top a b c yy col, DirPred.sample_fields_bottom a b c yy col⟩,
    fun a b c row col => ⟨rfl, rfl, rfl⟩⟩

end Sys2Proof.Machine
end

section
/-! PROOFS. The bit cursor: the bits of a read, inside the buffer and past its end (R200, R202), and the two answers of the
start-code search (R206). -/

namespace Sys2Proof.Machine

variable {s : State}

-- ---------------------------------------------------------------- bits (R200, R202)

theorem State.bit_inside {q : Nat} (h : q < s.bufBits) (look : Bool) : s.bit look q = byteBit s.cmd.pkt q := if_pos h

theorem State.bit_pastEnd_zero {q : Nat} (h : s.bufBits ≤ q) (hz : s.cfg.pastEnd = .zero) (look : Bool) :
    s.bit look q = false := by
  simp only [State.bit, Nat.not_lt.mpr h, if_false, hz]

/-- Settles O10: a read is the field of its bits, most significant bit first. -/
theorem bitReadAssemblesBits : Obligations.BitReadAssemblesBits := by
  intro s look p n
  exact ⟨fld_lt (s.bit look) p n, fun _ => fld_testBit (s.bit look) p, fun _ h => State.bit_inside h look,
    fun _ h hz => State.bit_pastEnd_zero h hz look⟩

-- ---------------------------------------------------------------- the start-code search (R206)

theorem State.getStartCode_of_nextPrefix {p : Nat} (h : s.NextPrefix p) : s.getStartCode = (true, s.setBp p) := by
  rw [State.getStartCode, State.startCodePos_of_nextPrefix h]

theorem State.getStartCode_of_noPrefix (h : s.NoPrefix) : s.getStartCode = (false, s.setBp s.bufBits) := by
  rw [State.getStartCode, State.startCodePos_of_noPrefix h]

/-- The search decides: its answer is the next prefix, or there is none. -/
theorem State.noPrefix_or_nextPrefix (s : State) : s.NoPrefix ∨ ∃ p, s.NextPrefix p := by
  cases h : s.startCodePos with
  | none => exact .inl (State.startCodePos_none h)
  | some p => exact .inr ⟨p, State.startCodePos_some h⟩

/-- Settles O11: the search answers exactly the next prefix, and writes `bp` alone. -/
theorem getStartCode : Obligations.GetStartCode :=
  fun s => ⟨fun _ => State.getStartCode_of_nextPrefix, State.getStartCode_of_noPrefix, s.noPrefix_or_nextPrefix⟩

end Sys2Proof.Machine
end

section
/-! PROOFS. The reference transform (R501). The ring of the cosines is a subring of the reals: each of its operations is
the real one, its sign is the real sign, and `cos16` is the real cosine. So `idctSum` is 16 times the real sum, and
`roundClamp` rounds that sum. -/

namespace Sys2Proof.Machine

-- ---------------------------------------------------------------- the real value of a ring element

/-- `sqrt (2 + sqrt 2)`, the `q` of the ring. -/
noncomputable def qRoot : ℝ := √(2 + √2)

/-- `sqrt (2 + q)`, the `p` of the ring. -/
noncomputable def pRoot : ℝ := √(2 + qRoot)

/-- The real number `a + sqrt 2 * b` that an element stands for. -/
noncomputable def Quad.toReal (x : Quad) : ℝ := x.a + √2 * x.b

/-- The real number `a + q * b` that an element stands for. -/
noncomputable def Oct.toReal (x : Oct) : ℝ := x.a.toReal + qRoot * x.b.toReal

/-- The real number `a + p * b` that an element stands for. -/
noncomputable def Hex.toReal (x : Hex) : ℝ := x.a.toReal + pRoot * x.b.toReal

theorem qRoot_pos : 0 < qRoot := Real.sqrt_pos.mpr (by positivity)

theorem pRoot_pos : 0 < pRoot := Real.sqrt_pos.mpr (add_pos two_pos qRoot_pos)

theorem sqrtTwo_mul_self : √2 * √2 = (2 : ℝ) := Real.mul_self_sqrt zero_le_two

@[simp] theorem qSquared_toReal : qSquared.toReal = qRoot * qRoot := by
  rw [qRoot, Real.mul_self_sqrt (by positivity)]
  simp [qSquared, Quad.toReal]

@[simp] theorem pSquared_toReal : pSquared.toReal = pRoot * pRoot := by
  rw [pRoot, Real.mul_self_sqrt (add_pos two_pos qRoot_pos).le]
  simp [pSquared, Oct.toReal, Quad.toReal]

@[simp] theorem Quad.toReal_add (x y : Quad) : (x.add y).toReal = x.toReal + y.toReal := by
  simp only [Quad.add, Quad.toReal, Int.cast_add]; ring

@[simp] theorem Oct.toReal_add (x y : Oct) : (x.add y).toReal = x.toReal + y.toReal := by
  simp only [Oct.add, Oct.toReal, Quad.toReal_add]; ring

@[simp] theorem Hex.toReal_add (x y : Hex) : (x.add y).toReal = x.toReal + y.toReal := by
  simp only [Hex.add, Hex.toReal, Oct.toReal_add]; ring

@[simp] theorem Quad.toReal_neg (x : Quad) : x.neg.toReal = -x.toReal := by
  simp only [Quad.neg, Quad.toReal, Int.cast_neg]; ring

@[simp] theorem Oct.toReal_neg (x : Oct) : x.neg.toReal = -x.toReal := by
  simp only [Oct.neg, Oct.toReal, Quad.toReal_neg]; ring

@[simp] theorem Hex.toReal_neg (x : Hex) : x.neg.toReal = -x.toReal := by
  simp only [Hex.neg, Hex.toReal, Oct.toReal_neg]; ring

@[simp] theorem Quad.toReal_mul (x y : Quad) : (x.mul y).toReal = x.toReal * y.toReal := by
  simp only [Quad.mul, Quad.toReal, Int.cast_add, Int.cast_mul, Int.cast_ofNat]
  linear_combination -(x.b * y.b : ℝ) * sqrtTwo_mul_self

@[simp] theorem Oct.toReal_mul (x y : Oct) : (x.mul y).toReal = x.toReal * y.toReal := by
  simp only [Oct.mul, Oct.toReal, Quad.toReal_add, Quad.toReal_mul, qSquared_toReal]; ring

@[simp] theorem Hex.toReal_mul (x y : Hex) : (x.mul y).toReal = x.toReal * y.toReal := by
  simp only [Hex.mul, Hex.toReal, Oct.toReal_add, Oct.toReal_mul, pSquared_toReal]; ring

@[simp] theorem Hex.toReal_ofInt (n : Int) : (Hex.ofInt n).toReal = n := by
  simp [Hex.ofInt, Hex.toReal, Oct.toReal, Quad.toReal]

-- ---------------------------------------------------------------- signs

/-- `surdSign` decides the sign of `a + s b`. When `a` and `b` have opposite signs, `a - s b` has the sign of `a`, and
its product with `a + s b` is the `a^2 - s^2 b^2` whose sign `surdSign` is given. -/
theorem surdSign_eq_sign {a b s : ℝ} (hs : 0 < s) :
    surdSign (SignType.sign a) (SignType.sign b) (SignType.sign (a * a - s * s * (b * b))) =
      SignType.sign (a + s * b) := by
  have hfactor : a * a - s * s * (b * b) = (a + s * b) * (a - s * b) := by ring
  rw [hfactor, sign_mul]
  obtain ha | rfl | ha := lt_trichotomy a 0 <;> obtain hb | rfl | hb := lt_trichotomy b 0
  · have := mul_neg_of_pos_of_neg hs hb
    simp [surdSign, ha, hb, add_neg ha this]
  · simp [surdSign, ha]
  · have := mul_pos hs hb
    simp [surdSign, ha, hb, (by linarith : a - s * b < 0)]
  · simp [surdSign, hb, mul_neg_of_pos_of_neg hs hb]
  · simp [surdSign]
  · simp [surdSign, hb, mul_pos hs hb]
  · have := mul_neg_of_pos_of_neg hs hb
    simp [surdSign, ha, hb, (by linarith : 0 < a - s * b)]
  · simp [surdSign, ha]
  · have := mul_pos hs hb
    simp [surdSign, ha, hb, add_pos ha this]

theorem intSign_eq_sign_cast (n : Int) : n.sign = SignType.sign (n : ℝ) := by
  rw [Int.sign_eq_sign, ← StrictMono.sign_comp (f := Int.castRingHom ℝ) Int.cast_strictMono n, Int.coe_castRingHom]

theorem Quad.sign_eq (x : Quad) : x.sign = SignType.sign x.toReal := by
  rw [Quad.sign, Quad.toReal, ← surdSign_eq_sign (Real.sqrt_pos.mpr two_pos), sqrtTwo_mul_self]
  simp only [intSign_eq_sign_cast, Int.cast_sub, Int.cast_mul, Int.cast_ofNat]

theorem Oct.sign_eq (x : Oct) : x.sign = SignType.sign x.toReal := by
  rw [Oct.sign, Oct.toReal, ← surdSign_eq_sign qRoot_pos]
  simp only [Quad.sign_eq, Quad.toReal_add, Quad.toReal_neg, Quad.toReal_mul, qSquared_toReal, sub_eq_add_neg]

theorem Hex.sign_eq (x : Hex) : x.sign = SignType.sign x.toReal := by
  rw [Hex.sign, Hex.toReal, ← surdSign_eq_sign pRoot_pos]
  simp only [Oct.sign_eq, Oct.toReal_add, Oct.toReal_neg, Oct.toReal_mul, pSquared_toReal, sub_eq_add_neg]

theorem Hex.zero_le_sign_iff (x : Hex) : 0 ≤ x.sign ↔ 0 ≤ x.toReal := by
  rw [Hex.sign_eq, ← sign_nonneg_iff (a := x.toReal)]
  cases SignType.sign x.toReal <;> decide

-- ---------------------------------------------------------------- cosines

theorem cos16_mod (k : Nat) : cos16 (k % 32) = cos16 k := by simp only [cos16, Nat.mod_mod]

/-- `2 cos (k + 2) t = 2 cos t * 2 cos (k + 1) t - 2 cos k t`, in the ring. -/
theorem cos16_add_two (k : Nat) : cos16 (k + 2) = ((cos16 1).mul (cos16 (k + 1))).add (cos16 k).neg := by
  have hperiod : ∀ m < 32, cos16 (m + 2) = ((cos16 1).mul (cos16 (m + 1))).add (cos16 m).neg := by decide
  have h := hperiod (k % 32) (Nat.mod_lt _ (by decide))
  rwa [← cos16_mod (k % 32 + 2), ← cos16_mod (k % 32 + 1), Nat.mod_add_mod, Nat.mod_add_mod, cos16_mod, cos16_mod,
    cos16_mod] at h

/-- `cos16` is the real cosine: both meet the recurrence of `cos16_add_two`. -/
theorem cos16_toReal (k : Nat) : (cos16 k).toReal = 2 * Real.cos (k * Real.pi / 16) := by
  have hone : (cos16 1).toReal = 2 * Real.cos (Real.pi / 16) := by
    rw [Real.cos_pi_div_sixteen, mul_div_cancel₀ _ two_ne_zero]
    simp [cos16, cosTab, Hex.toReal, Oct.toReal, Quad.toReal, pRoot, qRoot]
  induction k using Nat.twoStepInduction with
  | zero => simp [cos16, cosTab]
  | one => rw [hone, Nat.cast_one, one_mul]
  | more k ih₀ ih₁ =>
    have hsum := Real.cos_add_cos (((k + 2 : ℕ) : ℝ) * Real.pi / 16) (k * Real.pi / 16)
    have hmean : (((k + 2 : ℕ) : ℝ) * Real.pi / 16 + k * Real.pi / 16) / 2 = ((k + 1 : ℕ) : ℝ) * Real.pi / 16 := by
      push_cast; ring
    have hhalf : (((k + 2 : ℕ) : ℝ) * Real.pi / 16 - k * Real.pi / 16) / 2 = Real.pi / 16 := by push_cast; ring
    rw [hmean, hhalf] at hsum
    rw [cos16_add_two, Hex.toReal_add, Hex.toReal_mul, Hex.toReal_neg, hone, ih₀, ih₁]
    linear_combination -2 * hsum

/-- `C(k)` of R501. -/
noncomputable def idctScale (k : Nat) : ℝ := if k = 0 then 1 / √2 else 1

theorem basis_toReal (u x : Nat) :
    (basis u x).toReal = 2 * idctScale u * Real.cos ((2 * x + 1) * u * Real.pi / 16) := by
  by_cases hu : u = 0
  · have hquarter : ((4 : ℕ) : ℝ) * Real.pi / 16 = Real.pi / 4 := by push_cast; ring
    rw [basis, if_pos hu, cos16_toReal, hquarter, Real.cos_pi_div_four, Real.sqrt_div_self']
    simp [idctScale, hu]
  · rw [basis, if_neg hu, cos16_toReal, idctScale, if_neg hu, mul_one]
    push_cast; rfl

-- ---------------------------------------------------------------- the sum

/-- The term of R501's sum at horizontal frequency `u`, vertical frequency `v`. -/
noncomputable def idctTerm (b : List Int) (x y u v : Nat) : ℝ :=
  (idctScale u * idctScale v / 4) * ((b.getD (8 * v + u) 0 : Int) : ℝ) *
    Real.cos ((2 * x + 1) * u * Real.pi / 16) * Real.cos ((2 * y + 1) * v * Real.pi / 16)

/-- The sum of R501 at column `x`, row `y`. -/
noncomputable def idctReal (b : List Int) (x y : Nat) : ℝ :=
  ∑ u ∈ Finset.range 8, ∑ v ∈ Finset.range 8, idctTerm b x y u v

/-- One more term of `idctSum`; leaving out a zero coefficient changes nothing. -/
theorem idctSum_step_toReal (b : List Int) (x y j : Nat) (acc : Hex) :
    (let f := b.getD j 0
      if f = 0 then acc
      else acc.add ((Hex.ofInt f).mul ((basis (j % 8) x).mul (basis (j / 8) y)))).toReal =
      acc.toReal + 16 * idctTerm b x y (j % 8) (j / 8) := by
  dsimp only
  rw [idctTerm, Nat.div_add_mod]
  split
  case isTrue h => rw [h]; simp
  case isFalse =>
    rw [Hex.toReal_add, Hex.toReal_mul, Hex.toReal_mul, Hex.toReal_ofInt, basis_toReal, basis_toReal]
    ring

/-- The places of a block in raster order are its pairs of a column and a row. -/
theorem sum_range_64_eq_sum_columns_rows (g : Nat → Nat → ℝ) :
    ∑ j ∈ Finset.range 64, g (j % 8) (j / 8) = ∑ u ∈ Finset.range 8, ∑ v ∈ Finset.range 8, g u v := by
  rw [← Finset.sum_product']
  refine Finset.sum_nbij' (fun j => (j % 8, j / 8)) (fun p => 8 * p.2 + p.1) ?_ ?_ ?_ ?_ (fun _ _ => rfl)
  all_goals simp only [Finset.mem_product, Finset.mem_range, Prod.forall, Prod.mk.injEq]; omega

theorem idctSum_toReal (b : List Int) (x y : Nat) : (idctSum b x y).toReal = 16 * idctReal b x y := by
  rw [idctReal, ← sum_range_64_eq_sum_columns_rows (idctTerm b x y), idctSum]
  generalize 64 = n
  induction n with
  | zero => simp
  | succ n ih =>
    rw [List.range_succ, List.foldl_append, List.foldl_cons, List.foldl_nil, idctSum_step_toReal, ih,
      Finset.sum_range_succ, mul_add]

-- ---------------------------------------------------------------- rounding

/-- One step of the search in `roundMag`: keep the bit where it does not pass the target. -/
def greedyBit (m n b : Nat) : Nat := if n + b ≤ m then n + b else n

/-- Adding bits from the highest down, while they fit, finds the target, or the greatest number of that many bits. -/
theorem greedyBit_foldl (m k : Nat) : ∀ n ≤ m,
    ((List.range k).reverse.map (2 ^ ·)).foldl (greedyBit m) n = min m (n + 2 ^ k - 1) := by
  induction k with
  | zero => intro n hn; simp [hn]
  | succ k ih =>
    intro n hn
    have hpos : 0 < 2 ^ k := Nat.two_pow_pos k
    have hstep : greedyBit m n (2 ^ k) ≤ m := by unfold greedyBit; split <;> omega
    rw [List.range_succ, List.reverse_append, List.reverse_singleton, List.singleton_append, List.map_cons,
      List.foldl_cons, ih _ hstep, pow_succ]
    unfold greedyBit
    split <;> omega

theorem roundBits_eq : roundBits = (List.range 9).reverse.map (2 ^ ·) := by decide

/-- The search of `roundMag` finds `floor (h / 16 + 1/2)`, up to 511. -/
theorem roundMag_eq {h : Hex} {r : ℝ} (hr : h.toReal = 16 * r) (h0 : 0 ≤ r) :
    (roundMag h : Int) = min ⌊r + 1 / 2⌋ 511 := by
  have hbit : ∀ n b : Nat,
      (if 0 ≤ (h.add (Hex.ofInt (8 - 16 * ((n + b : Nat) : Int)))).sign then n + b else n) =
        greedyBit ⌊r + 1 / 2⌋₊ n b := by
    intro n b
    refine if_congr ?_ rfl rfl
    rw [Hex.zero_le_sign_iff, Hex.toReal_add, Hex.toReal_ofInt, hr, Nat.le_floor_iff (by positivity)]
    push_cast
    constructor <;> intro hle <;> linarith
  simp only [roundMag, hbit]
  rw [roundBits_eq, greedyBit_foldl _ _ _ (Nat.zero_le _), ← Int.natCast_floor_eq_floor (by positivity)]
  omega

/-- `roundHalfAway` of R501. -/
noncomputable def roundHalfAway (r : ℝ) : Int := if 0 ≤ r then ⌊r + 1 / 2⌋ else -⌊-r + 1 / 2⌋

theorem roundClamp_eq {h : Hex} {r : ℝ} (hr : h.toReal = 16 * r) :
    roundClamp h = max (-256) (min 255 (roundHalfAway r)) := by
  have hsign : 0 ≤ h.sign ↔ 0 ≤ r := by rw [Hex.zero_le_sign_iff, hr]; constructor <;> intro <;> linarith
  rw [roundClamp, roundHalfAway, if_congr hsign rfl rfl]
  split
  case isTrue h0 =>
    rw [roundMag_eq hr h0, clampInt]
    omega
  case isFalse h0 =>
    have hneg : h.neg.toReal = 16 * -r := by rw [Hex.toReal_neg, hr]; ring
    have hr0 : 0 ≤ -r := by linarith
    rw [roundMag_eq hneg hr0, clampInt]
    omega

-- ---------------------------------------------------------------- the transform

theorem refIdct_getD {x y : Nat} (b : List Int) (hx : x < 8) (hy : y < 8) :
    (refIdct b).getD (8 * y + x) 0 = roundClamp (idctSum b x y) := by
  have hj : 8 * y + x < 64 := by omega
  have hcol : (8 * y + x) % 8 = x := by omega
  have hrow : (8 * y + x) / 8 = y := by omega
  simp [refIdct, hj, hcol, hrow]

/-- Settles O44: `idctSum` is 16 times the real sum, and `roundClamp` rounds it. -/
theorem referenceTransformIsExact : Obligations.ReferenceTransformIsExact := by
  intro b x y _ hx hy
  exact (refIdct_getD b hx hy).trans (roundClamp_eq (idctSum_toReal b x y))

end Sys2Proof.Machine
end

section
/-! PROOFS. Reconstruction (R545, R546): the position, the value and the place of every sample it writes. -/

namespace Sys2Proof.Machine

-- ---------------------------------------------------------------- position and value of a sample

/-- The row and the column of a block's sample in the macroblock (R546). -/
theorem destRowCol_eq (dctType : Bool) (i : Fin 6) (x y : Nat) :
    destRowCol dctType i x y =
      (if i.val < 4 then (if dctType then i.val / 2 + 2 * y else 8 * (i.val / 2) + y) else y,
        if i.val < 4 then 8 * (i.val % 2) + x else x) := by
  by_cases h : i.val < 4
  · simp only [destRowCol, if_pos h]
  · simp only [destRowCol, if_neg h]

/-- The clipping of R545 saturates to 0..255. -/
theorem sampleByte_eq (v : Int) : sampleByte v = BitVec.ofNat 8 (max 0 (min 255 v)).toNat := by
  have hclip : clip255 v = max 0 (min 255 v) := by unfold clip255; omega
  rw [sampleByte, hclip]

-- ---------------------------------------------------------------- the macroblock

theorem State.reconReady_of_grid {s : State} (ha : s.inst.allocated = some (s.width, s.height))
    (hm : s.slc.mba < s.mbCount) : s.reconReady = true := by
  simp only [State.reconReady, ha, hm, beq_self_eq_true, decide_true, Bool.and_self]

/-- Settles O46: `reconstruct_eq` gives the registers, `read_reconCells` each sample of the macroblock, and
`read_reconCells_outside` the samples it leaves. -/
theorem reconstructionWritesMacroblock : Obligations.ReconstructionWritesMacroblock := by
  intro s p ha hm _ hp
  have hgo := (State.reconstruct_eq (State.reconReady_of_grid ha hm)).2 p hp _ s.residuals_eq _ rfl
  refine ⟨_, hgo, fun i x y hx hy => ?_, fun n hn => State.read_reconCells_outside _ p _ hn⟩
  have hread := State.read_reconCells ha hm s.inst.fb p s.residuals i hx hy
  rw [destRowCol_eq, s.residuals_getD] at hread
  exact hread.trans (congrArg some (sampleByte_eq _))

end Sys2Proof.Machine
end

section
/-! PROOFS. The lookup of a picture by its timestamp (R620): the scan's best slot is the nearest of the slots scanned, the
lowest of equals, and scanning one more slot keeps this. -/

namespace Sys2Proof.Machine

-- ---------------------------------------------------------------- the nearest slot

theorem ptsDist_eq_natAbs (a b : BitVec 64) : ptsDist a b = ((a.toNat : Int) - b.toNat).natAbs := by
  unfold ptsDist
  omega

/-- Slot `k` of the list is `x`, valid, no valid slot is nearer to `q`, and every valid slot before it is farther (R620). -/
def IsNearest (q : BitVec 64) (l : List Slot) (k : Nat) (x : Slot) : Prop :=
  l[k]? = some x ∧ x.pts ≠ 0 ∧
    ∀ (j : Nat) (y : Slot), l[j]? = some y → y.pts ≠ 0 →
      ptsDist x.pts q ≤ ptsDist y.pts q ∧ (j < k → ptsDist x.pts q < ptsDist y.pts q)

/-- What the scan holds after the slots of `l`: nothing when none is valid, else the nearest one with its distance. -/
def IsBest (q : BitVec 64) (l : List Slot) : Option (Nat × Nat) → Prop
  | none => ∀ x ∈ l, x.pts = 0
  | some (k, d) => ∃ x, IsNearest q l k x ∧ d = ptsDist x.pts q

theorem IsBest.eq_none_iff {q : BitVec 64} {l : List Slot} {best : Option (Nat × Nat)} (h : IsBest q l best) :
    best = none ↔ ∀ x ∈ l, x.pts = 0 := by
  match best, h with
  | none, h => exact iff_of_true rfl h
  | some _, ⟨x, ⟨hx, hv, _⟩, _⟩ => exact iff_of_false nofun fun h0 => hv (h0 x (List.mem_of_getElem? hx))

-- ---------------------------------------------------------------- one more slot

/-- An entry of a list with one more slot is an old entry or the new slot. -/
theorem getElem?_concat_cases {l : List Slot} {x y : Slot} {j : Nat} (h : (l ++ [x])[j]? = some y) :
    (j < l.length ∧ l[j]? = some y) ∨ (j = l.length ∧ y = x) := by
  rw [List.getElem?_append] at h
  split at h
  next hj => exact .inl ⟨hj, h⟩
  next hj =>
    rw [List.getElem?_singleton] at h
    split at h
    · exact .inr ⟨by omega, (Option.some.inj h).symm⟩
    · cases h

/-- A slot that is invalid or no nearer leaves the nearest one. -/
theorem IsNearest.concat {q : BitVec 64} {l : List Slot} {k : Nat} {x y : Slot} (h : IsNearest q l k x)
    (hy : y.pts ≠ 0 → ptsDist x.pts q ≤ ptsDist y.pts q) : IsNearest q (l ++ [y]) k x := by
  obtain ⟨hk, hv, hmin⟩ := h
  have hlt : k < l.length := (List.getElem?_eq_some_iff.mp hk).1
  refine ⟨by rwa [List.getElem?_append_left hlt], hv, fun j z hz hzv => ?_⟩
  obtain ⟨-, hold⟩ | ⟨rfl, rfl⟩ := getElem?_concat_cases hz
  · exact hmin j z hold hzv
  · exact ⟨hy hzv, fun hj => by omega⟩

/-- A valid slot that is nearer than every valid slot before it becomes the nearest one. -/
theorem isNearest_concat_self {q : BitVec 64} {l : List Slot} {x : Slot} (hx : x.pts ≠ 0)
    (hfar : ∀ y ∈ l, y.pts ≠ 0 → ptsDist x.pts q < ptsDist y.pts q) : IsNearest q (l ++ [x]) l.length x := by
  refine ⟨List.getElem?_concat_length, hx, fun j y hy hyv => ?_⟩
  obtain ⟨-, hold⟩ | ⟨rfl, rfl⟩ := getElem?_concat_cases hy
  · have hlt := hfar y (List.mem_of_getElem? hold) hyv
    exact ⟨hlt.le, fun _ => hlt⟩
  · exact ⟨le_rfl, fun hj => absurd hj (lt_irrefl _)⟩

-- ---------------------------------------------------------------- the scan

/-- What the scan holds after one more slot, number `k` (R620). -/
def nextBest (q : BitVec 64) (x : Slot) (k : Nat) (best : Option (Nat × Nat)) : Option (Nat × Nat) :=
  if x.pts = 0 then best
  else
    match best with
    | none => some (k, ptsDist x.pts q)
    | some (j, d) => if ptsDist x.pts q < d then some (k, ptsDist x.pts q) else some (j, d)

theorem lookupFrom_cons (q : BitVec 64) (x : Slot) (l : List Slot) (k : Nat) (best : Option (Nat × Nat)) :
    lookupFrom q (x :: l) k best = lookupFrom q l (k + 1) (nextBest q x k best) := by
  unfold nextBest
  cases best <;> rw [lookupFrom] <;> split <;> rfl

theorem IsBest.concat {q : BitVec 64} {l : List Slot} {best : Option (Nat × Nat)} (h : IsBest q l best) (x : Slot) :
    IsBest q (l ++ [x]) (nextBest q x l.length best) := by
  unfold nextBest
  split
  next hx =>
    match best, h with
    | none, h => exact List.forall_mem_append.mpr ⟨h, List.forall_mem_singleton.mpr hx⟩
    | some _, ⟨w, hw, hd⟩ => exact ⟨w, hw.concat fun hv => absurd hx hv, hd⟩
  next hx =>
    match best, h with
    | none, h => exact ⟨x, isNearest_concat_self hx fun y hy hv => absurd (h y hy) hv, rfl⟩
    | some (_, _), ⟨w, hw, hd⟩ =>
      subst hd
      dsimp only
      split
      next hlt =>
        refine ⟨x, isNearest_concat_self hx fun y hy hv => ?_, rfl⟩
        obtain ⟨j, hj⟩ := List.mem_iff_getElem?.mp hy
        obtain ⟨-, -, hmin⟩ := hw
        exact hlt.trans_le (hmin j y hj hv).1
      next hge => exact ⟨w, hw.concat fun _ => not_lt.mp hge, rfl⟩

/-- The scan of the slots after `l` ends with the best of them all. -/
theorem IsBest.exists_lookupFrom {q : BitVec 64} {l : List Slot} {best : Option (Nat × Nat)} (h : IsBest q l best)
    (rest : List Slot) :
    ∃ b, lookupFrom q rest l.length best = b.map (·.1) ∧ IsBest q (l ++ rest) b := by
  induction rest generalizing l best with
  | nil => exact ⟨best, rfl, by rwa [List.append_nil]⟩
  | cons x rest ih =>
    obtain ⟨b, hb, hbest⟩ := ih (h.concat x)
    rw [List.length_append] at hb
    exact ⟨b, (lookupFrom_cons q x rest _ best).trans hb, by rwa [List.append_assoc] at hbest⟩

theorem State.lookup_isBest (s : State) (q : BitVec 64) :
    ∃ b, s.lookup q = b.map (·.1) ∧ IsBest q s.inst.ring b := by
  have hempty : IsBest q [] none := List.forall_mem_nil _
  exact hempty.exists_lookupFrom s.inst.ring

/-- Settles O49: the scan over the whole ring ends with its best slot (`State.lookup_isBest`). -/
theorem lookupFindsNearest : Obligations.LookupFindsNearest := by
  intro s q dist
  obtain ⟨b, hlookup, hbest⟩ := s.lookup_isBest q
  refine ⟨by rw [hlookup, Option.map_eq_none_iff, hbest.eq_none_iff], fun k hk => ?_⟩
  rw [hlookup] at hk
  obtain ⟨⟨_, d⟩, rfl, rfl⟩ := Option.map_eq_some_iff.mp hk
  obtain ⟨x, ⟨hx, hv, hmin⟩, -⟩ := hbest
  simp only [ptsDist_eq_natAbs] at hmin
  exact ⟨x, hx, hv, hmin⟩

end Sys2Proof.Machine
end

section
/-! PROOFS. Code words (R154, R230, R231): a code word stands for the span of 16-bit values that begin with it. The spans
of a table's code words and of its invalid prefixes, put in order, follow one another from 0 to 2^16: any bits begin
with exactly one of them. -/

namespace Sys2Proof

-- ---------------------------------------------------------------- fields and the bits they are read from

theorem fld_add (rd : Nat → Bool) (p m n : Nat) : fld rd p (m + n) = fld rd p m * 2 ^ n + fld rd (p + m) n := by
  induction n with
  | zero => simp [fld]
  | succ n ih =>
    rw [← Nat.add_assoc, fld, ih, fld, Nat.pow_succ, ← Nat.add_assoc]
    ring

/-- The bits begin with `l` exactly when the field of that length has the value of `l`. -/
theorem agrees_iff_fld_eq {rd : Nat → Bool} {l : List Bool} :
    Agrees rd l ↔ fld rd 0 l.length = fld (fun k => l.getD k false) 0 l.length := by
  refine ⟨fun h => fld_congr fun k hk => by simpa using h k hk, fun h k hk => ?_⟩
  have hbit := fld_testBit rd 0 hk
  rwa [h, fld_testBit _ 0 hk, Nat.zero_add, eq_comm] at hbit

-- ---------------------------------------------------------------- spans

/-- A code word: its length and its value. -/
abbrev CodeWord := Nat × Nat

/-- The bits begin with the code word. -/
def CodeWord.begins (w : CodeWord) (rd : Nat → Bool) : Bool := fld rd 0 w.1 == w.2

/-- The 16-bit values that begin with the code word: from the first number up to the second. -/
def CodeWord.span (w : CodeWord) : Nat × Nat := (w.2 * 2 ^ (16 - w.1), (w.2 + 1) * 2 ^ (16 - w.1))

/-- `x` is a value of the span. -/
def inSpan (x : Nat) (s : Nat × Nat) : Bool := decide (s.1 ≤ x) && decide (x < s.2)

theorem CodeWord.begins_eq_inSpan {w : CodeWord} (h : w.1 ≤ 16) (rd : Nat → Bool) :
    w.begins rd = inSpan (fld rd 0 16) w.span := by
  obtain ⟨len, code⟩ := w
  have hsplit : fld rd 0 16 = fld rd 0 len * 2 ^ (16 - len) + fld rd (0 + len) (16 - len) := by
    rw [← fld_add, Nat.add_sub_cancel' h]
  have hrest := fld_lt rd (0 + len) (16 - len)
  rw [Bool.eq_iff_iff]
  simp only [CodeWord.begins, inSpan, CodeWord.span, beq_iff_eq, Bool.and_eq_true, decide_eq_true_eq, hsplit]
  refine ⟨fun he => by subst he; rw [Nat.succ_mul]; omega, fun ⟨hlo, hhi⟩ => ?_⟩
  have h1 : code < fld rd 0 len + 1 := Nat.lt_of_mul_lt_mul_right (a := 2 ^ (16 - len)) (by rw [Nat.succ_mul]; omega)
  have h2 : fld rd 0 len < code + 1 := Nat.lt_of_mul_lt_mul_right (a := 2 ^ (16 - len)) (by omega)
  omega

/-- The spans follow one another from `lo` to `hi` without a gap. -/
def Tiles : Nat → List (Nat × Nat) → Nat → Bool
  | lo, [], hi => lo == hi
  | lo, s :: l, hi => s.1 == lo && decide (lo ≤ s.2) && Tiles s.2 l hi

theorem Tiles.le {lo hi : Nat} {l : List (Nat × Nat)} (h : Tiles lo l hi = true) : lo ≤ hi := by
  induction l generalizing lo with
  | nil => exact (beq_iff_eq.mp h).le
  | cons s l ih =>
    simp only [Tiles, Bool.and_eq_true, decide_eq_true_eq] at h
    exact h.1.2.trans (ih h.2)

/-- A value between the ends is in exactly one of the spans, any other in none. -/
theorem Tiles.countP_inSpan {lo hi : Nat} {l : List (Nat × Nat)} (h : Tiles lo l hi = true) (x : Nat) :
    l.countP (inSpan x) = if lo ≤ x ∧ x < hi then 1 else 0 := by
  induction l generalizing lo with
  | nil =>
    have := beq_iff_eq.mp h
    rw [List.countP_nil, if_neg (by omega)]
  | cons s l ih =>
    simp only [Tiles, Bool.and_eq_true, decide_eq_true_eq, beq_iff_eq] at h
    obtain ⟨⟨rfl, hle⟩, htail⟩ := h
    have := Tiles.le htail
    rw [List.countP_cons, ih htail]
    simp only [inSpan, Bool.and_eq_true, decide_eq_true_eq]
    split_ifs <;> omega

-- ---------------------------------------------------------------- the tables (R231)

/-- The code word of a row. -/
def VlcRow.word (r : VlcRow) : CodeWord := (r.len, r.code)

/-- The code word that a bit string is. -/
def prefixWord (p : List Bool) : CodeWord := (p.length, fld (fun k => p.getD k false) 0 p.length)

/-- The code words of a table and its invalid prefixes. -/
def tableWords (t : List VlcRow × List (List Bool)) : List CodeWord := t.1.map VlcRow.word ++ t.2.map prefixWord

theorem prefixWord_begins_iff {p : List Bool} {rd : Nat → Bool} : (prefixWord p).begins rd = true ↔ Agrees rd p := by
  rw [agrees_iff_fld_eq]
  exact beq_iff_eq

theorem tableWords_le_16 : ∀ t ∈ invalidPrefixes, ∀ w ∈ tableWords t, w.1 ≤ 16 := by decide +kernel

/-- The spans of a table's words in the order of their first values. -/
def tableSpans (t : List VlcRow × List (List Bool)) : List (Nat × Nat) :=
  ((tableWords t).map CodeWord.span).insertionSort (fun a b => a.1 ≤ b.1)

theorem tableSpans_perm (t : List VlcRow × List (List Bool)) :
    (tableSpans t).Perm ((tableWords t).map CodeWord.span) := List.perm_insertionSort _ _

theorem tableSpans_tile : ∀ t ∈ invalidPrefixes, Tiles 0 (tableSpans t) (2 ^ 16) = true := by decide +kernel

/-- Any bits begin with exactly one word of a table. -/
theorem countP_tableWords {t : List VlcRow × List (List Bool)} (ht : t ∈ invalidPrefixes) (rd : Nat → Bool) :
    (tableWords t).countP (·.begins rd) = 1 := by
  have hspan : (tableWords t).countP (·.begins rd) = ((tableWords t).map CodeWord.span).countP (inSpan (fld rd 0 16)) := by
    rw [List.countP_map]
    refine List.countP_congr fun w hw => ?_
    rw [CodeWord.begins_eq_inSpan (tableWords_le_16 t ht w hw), Function.comp_apply]
  rw [hspan, ← (tableSpans_perm t).countP_eq, Tiles.countP_inSpan (tableSpans_tile t ht),
    if_pos ⟨Nat.zero_le _, fld_lt rd 0 16⟩]

/-- The rows whose code word begins the bits, and the invalid prefixes that do, are one together. -/
theorem countP_rows_add_prefixes {t : List VlcRow × List (List Bool)} (ht : t ∈ invalidPrefixes) (rd : Nat → Bool) :
    t.1.countP (fun r => fld rd 0 r.len == r.code) + t.2.countP (fun p => (prefixWord p).begins rd) = 1 := by
  rw [← countP_tableWords ht rd, tableWords, List.countP_append, List.countP_map, List.countP_map]
  rfl

theorem countP_rows_le_one {t : List VlcRow} (ht : t ∈ vlcTables) (rd : Nat → Bool) :
    t.countP (fun r => fld rd 0 r.len == r.code) ≤ 1 := by
  obtain ⟨p, hp, rfl⟩ := List.mem_map.mp (show t ∈ invalidPrefixes.map Prod.fst from ht)
  have := countP_rows_add_prefixes hp rd
  omega

/-- Settles O4: the words of a table tile the 16-bit values, so no two of its rows begin the same bits. -/
theorem codeWordsPrefixFree : Obligations.CodeWordsPrefixFree := fun t ht rd => by
  rw [← List.countP_eq_length_filter]
  exact countP_rows_le_one ht rd

/-- Settles O5: exactly one of a table's rows and invalid prefixes begins the bits. -/
theorem invalidCodeSpaces : Obligations.InvalidCodeSpaces := by
  intro t ht rd
  have hone := countP_rows_add_prefixes ht rd
  have hrows : lookupVlc t.1 rd = none ↔ t.1.countP (fun r => fld rd 0 r.len == r.code) = 0 := by
    rw [lookupVlc, Option.map_eq_none_iff, List.find?_eq_none, List.countP_eq_zero]
  have hprefixes : (∃ p ∈ t.2, Agrees rd p) ↔ 0 < t.2.countP (fun p => (prefixWord p).begins rd) := by
    simp only [List.countP_pos_iff, prefixWord_begins_iff]
  rw [hrows, hprefixes]
  omega

end Sys2Proof
end

section
/-! PROOFS. Decoding and encoding in the VLC tables (R154, R155, R230): bits that begin with a row's code word
are decoded by that row, since no code word begins another (O4). -/

namespace Sys2Proof

-- ---------------------------------------------------------------- the table of a context

/-- The table of a context; of a context that is no table's, no row. -/
def tableOf : DecCtx → List VlcRow
  | .mba => mbaTable
  | .mbTypeI => mbTypeITable
  | .mbTypeP => mbTypePTable
  | .mbTypeB => mbTypeBTable
  | .cbp => cbpTable
  | .mv => mvTable
  | .dcl => dclTable
  | .dcc => dccTable
  | .dct0 => dct0Table
  | .dct0First => dct0FirstTable
  | .dct1 => dct1Table
  | _ => []

theorem decode_table {c : DecCtx} (hc : c.isTable = true) (rd : Nat → Bool) (fuel : Nat) :
    decode c rd fuel = lookupVlc (tableOf c) rd := by
  cases c <;> simp [DecCtx.isTable] at hc <;> rfl

theorem tableOf_mem {c : DecCtx} (hc : c.isTable = true) : tableOf c ∈ vlcTables := by
  cases c <;> simp [DecCtx.isTable] at hc <;> simp [tableOf, vlcTables]

theorem row_code_lt : ∀ t ∈ vlcTables, ∀ r ∈ t, r.code < 2 ^ r.len := by decide +kernel

-- ---------------------------------------------------------------- the row of a code word

/-- The row of a table with the code word of `len` bits and value `code`. -/
def rowAt (t : List VlcRow) (len code : Nat) : Option VlcRow := t.find? fun r => r.len == len && r.code == code

theorem rowAt_some {t : List VlcRow} {len code : Nat} {r : VlcRow} (h : rowAt t len code = some r) :
    r ∈ t ∧ r.len = len ∧ r.code = code := by
  have hp := List.find?_some h
  simp only [Bool.and_eq_true, beq_iff_eq] at hp
  exact ⟨List.mem_of_find?_eq_some h, hp⟩

/-- Bits that begin with a row's code word are decoded by that row, since no other row begins them. -/
theorem lookupVlc_of_row {t : List VlcRow} (ht : t ∈ vlcTables) {r : VlcRow} (hr : r ∈ t) {rd : Nat → Bool}
    (h : Agrees rd (natBits r.len r.code)) : lookupVlc t rd = some (r.build fun k => rd (r.len + k)) := by
  have hbegins : (fld rd 0 r.len == r.code) = true := beq_iff_eq.mpr (fld_of_agrees h (row_code_lt t ht r hr))
  obtain ⟨r', hr'⟩ : ∃ r', t.find? (fun r => fld rd 0 r.len == r.code) = some r' :=
    Option.isSome_iff_exists.mp (List.find?_isSome.mpr ⟨r, hr, hbegins⟩)
  have hmem : r ∈ t.filter fun r => fld rd 0 r.len == r.code := List.mem_filter.mpr ⟨hr, hbegins⟩
  have hmem' : r' ∈ t.filter fun r => fld rd 0 r.len == r.code :=
    List.mem_filter.mpr ⟨List.mem_of_find?_eq_some hr', (List.find?_eq_some_iff_append.mp hr').1⟩
  obtain ⟨x, hx⟩ := List.length_eq_one_iff.mp
    (le_antisymm (codeWordsPrefixFree t ht rd) (List.length_pos_of_mem hmem))
  rw [hx, List.mem_singleton] at hmem hmem'
  rw [lookupVlc, hr', hmem', ← hmem]
  rfl

-- ---------------------------------------------------------------- bits at a place

/-- The bits at `p` are `l`. -/
def AgreesAt (rd : Nat → Bool) (p : Nat) (l : List Bool) : Prop := Agrees (fun k => rd (p + k)) l

theorem agreesAt_zero {rd : Nat → Bool} {l : List Bool} : AgreesAt rd 0 l ↔ Agrees rd l := by
  simp only [AgreesAt, Nat.zero_add]

@[simp] theorem agreesAt_append {rd : Nat → Bool} {p : Nat} {l m : List Bool} :
    AgreesAt rd p (l ++ m) ↔ AgreesAt rd p l ∧ AgreesAt rd (p + l.length) m := by
  simp only [AgreesAt, agrees_append, Nat.add_assoc]

@[simp] theorem agreesAt_nil {rd : Nat → Bool} {p : Nat} : AgreesAt rd p [] := fun _ hk => absurd hk (Nat.not_lt_zero _)

@[simp] theorem agreesAt_cons {rd : Nat → Bool} {p : Nat} {b : Bool} {l : List Bool} :
    AgreesAt rd p (b :: l) ↔ rd p = b ∧ AgreesAt rd (p + 1) l := by
  rw [← List.singleton_append, agreesAt_append]
  simp [AgreesAt, Agrees]

theorem bv_shift (rd : Nat → Bool) (p q n : Nat) : bv (fun k => rd (p + k)) q n = bv rd (p + q) n := by
  rw [bv, bv, fld_shift rd, fld_shift (fun k => rd (p + k))]
  simp only [Nat.add_assoc]

@[simp] theorem agreesAt_bvBits {rd : Nat → Bool} {p n : Nat} {v : BitVec n} : AgreesAt rd p (bvBits v) ↔ bv rd p n = v := by
  rw [← Nat.add_zero p, ← bv_shift rd p 0 n]
  refine ⟨bv_of_agrees, fun h => ?_⟩
  rw [Nat.add_zero, ← h, bvBits, bv, BitVec.toNat_ofNat, Nat.mod_eq_of_lt (fld_lt _ _ _)]
  exact agrees_natBits_fld _ n

@[simp] theorem bvBits_length {n : Nat} (v : BitVec n) : (bvBits v).length = n := natBits_length n v.toNat

-- ---------------------------------------------------------------- decoding what a table's row encodes

/-- Bits that begin with the encoding of `i` decode to `i` in context `c`. -/
def DecodesBack (c : DecCtx) (i : Instr) : Prop :=
  ∀ rd fuel, Agrees rd (encode i) → (encode i).length ≤ fuel → decode c rd fuel = some i

theorem decode_of_rowAt {c : DecCtx} (hc : c.isTable = true) {len code fuel : Nat} {r : VlcRow}
    (hr : rowAt (tableOf c) len code = some r) {rd : Nat → Bool} (h : Agrees rd (natBits len code)) :
    decode c rd fuel = some (r.build fun k => rd (len + k)) := by
  obtain ⟨hmem, rfl, rfl⟩ := rowAt_some hr
  rw [decode_table hc, lookupVlc_of_row (tableOf_mem hc) hmem h]

section Rows
variable {c : DecCtx} {len code : Nat} (hc : c.isTable = true)
include hc

theorem DecodesBack.plain {i : Instr} (enc : encode i = natBits len code)
    (row : rowAt (tableOf c) len code = some (plainRow len code i)) : DecodesBack c i := by
  intro rd fuel h _
  rw [enc] at h
  exact decode_of_rowAt hc row h

theorem DecodesBack.sign {build : Bool → Instr} {s : Bool} (enc : encode (build s) = signBits len code s)
    (row : rowAt (tableOf c) len code = some (signRow len code build)) : DecodesBack c (build s) := by
  intro rd fuel h _
  rw [enc, signBits, ← agreesAt_zero, agreesAt_append, agreesAt_zero, agreesAt_cons, natBits_length, Nat.zero_add] at h
  obtain ⟨hword, hsign, -⟩ := h
  rw [decode_of_rowAt hc row hword]
  exact congrArg (some ∘ build) hsign

theorem DecodesBack.escape {build : BitVec 6 → BitVec 12 → Instr} {run : BitVec 6} {level : BitVec 12}
    (enc : encode (build run level) = escBits len code run level)
    (row : rowAt (tableOf c) len code = some (escRow len code build)) : DecodesBack c (build run level) := by
  intro rd fuel h _
  rw [enc, escBits, ← agreesAt_zero, agreesAt_append, agreesAt_append, agreesAt_zero, List.length_append,
    natBits_length, bvBits_length, Nat.zero_add, Nat.zero_add, agreesAt_bvBits, agreesAt_bvBits] at h
  obtain ⟨⟨hword, hrun⟩, hlevel⟩ := h
  rw [decode_of_rowAt hc row hword, escRow]
  dsimp only
  rw [bv_shift, bv_shift, Nat.add_zero, hrun, hlevel]

end Rows

end Sys2Proof
end

section
/-! PROOFS. What a table decodes (R154, R155): a well-formed instruction of the table's context, whose encoding stands at
the bits. -/

namespace Sys2Proof

/-- What a row builds is a well-formed instruction of context `c`, encoded as the row's code word and the bits it was
built from. -/
def RowSound (c : DecCtx) (r : VlcRow) : Prop :=
  ∀ e, (r.build e).wf = true ∧ (r.build e).inCtx c = true ∧
    ∃ tail, encode (r.build e) = natBits r.len r.code ++ tail ∧ Agrees e tail

theorem RowSound.plain {c : DecCtx} {len code : Nat} {i : Instr} (wf : i.wf = true) (ctx : i.inCtx c = true)
    (enc : encode i = natBits len code) : RowSound c (plainRow len code i) :=
  fun _ => ⟨wf, ctx, [], by simpa [plainRow] using enc, fun _ hk => absurd hk (Nat.not_lt_zero _)⟩

theorem RowSound.sign {c : DecCtx} {len code : Nat} {b : Bool → Instr} (wf : ∀ s, (b s).wf = true)
    (ctx : ∀ s, (b s).inCtx c = true) (enc : ∀ s, encode (b s) = signBits len code s) :
    RowSound c (signRow len code b) :=
  fun e => ⟨wf _, ctx _, [e 0], enc _, by simp [Agrees]⟩

theorem RowSound.escape {c : DecCtx} {len code : Nat} {b : BitVec 6 → BitVec 12 → Instr}
    (wf : ∀ run level, (b run level).wf = true) (ctx : ∀ run level, (b run level).inCtx c = true)
    (enc : ∀ run level, encode (b run level) = escBits len code run level) : RowSound c (escRow len code b) := by
  refine fun e => ⟨wf _ _, ctx _ _, bvBits (bv e 0 6) ++ bvBits (bv e 6 12), ?_, ?_⟩
  · exact (enc _ _).trans (List.append_assoc _ _ _)
  · rw [← agreesAt_zero, agreesAt_append, agreesAt_bvBits, agreesAt_bvBits, bvBits, natBits_length]
    exact ⟨rfl, rfl⟩

theorem mbaTable_sound : ∀ r ∈ mbaTable, RowSound .mba r := by
  unfold mbaTable mbaTable1 mbaTable2
  refine List.forall_mem_append.2 ⟨?_, ?_⟩ <;>
    · repeat (refine List.forall_mem_cons.2 ⟨.plain rfl rfl rfl, ?_⟩)
      exact List.forall_mem_nil _

theorem mbTypeITable_sound : ∀ r ∈ mbTypeITable, RowSound .mbTypeI r := by
  unfold mbTypeITable
  repeat (refine List.forall_mem_cons.2 ⟨.plain rfl rfl rfl, ?_⟩)
  exact List.forall_mem_nil _

theorem mbTypePTable_sound : ∀ r ∈ mbTypePTable, RowSound .mbTypeP r := by
  unfold mbTypePTable
  repeat (refine List.forall_mem_cons.2 ⟨.plain rfl rfl rfl, ?_⟩)
  exact List.forall_mem_nil _

theorem mbTypeBTable_sound : ∀ r ∈ mbTypeBTable, RowSound .mbTypeB r := by
  unfold mbTypeBTable
  repeat (refine List.forall_mem_cons.2 ⟨.plain rfl rfl rfl, ?_⟩)
  exact List.forall_mem_nil _

theorem cbpTable_sound : ∀ r ∈ cbpTable, RowSound .cbp r := by
  unfold cbpTable cbpTable1 cbpTable2 cbpTable3
  refine List.forall_mem_append.2 ⟨List.forall_mem_append.2 ⟨?_, ?_⟩, ?_⟩ <;>
    · repeat (refine List.forall_mem_cons.2 ⟨.plain rfl rfl rfl, ?_⟩)
      exact List.forall_mem_nil _

theorem mvTable_sound : ∀ r ∈ mvTable, RowSound .mv r := by
  unfold mvTable
  repeat (refine List.forall_mem_cons.2 ⟨.plain rfl rfl rfl, ?_⟩)
  exact List.forall_mem_nil _

theorem dclTable_sound : ∀ r ∈ dclTable, RowSound .dcl r := by
  unfold dclTable
  repeat (refine List.forall_mem_cons.2 ⟨.plain rfl rfl rfl, ?_⟩)
  exact List.forall_mem_nil _

theorem dccTable_sound : ∀ r ∈ dccTable, RowSound .dcc r := by
  unfold dccTable
  repeat (refine List.forall_mem_cons.2 ⟨.plain rfl rfl rfl, ?_⟩)
  exact List.forall_mem_nil _

/-- The rows of table DCT0 that both its forms have (R240, R241). -/
theorem dct0Rest_sound {c : DecCtx} (hc : (c == .dct0 || c == .dct0First) = true) : ∀ r ∈ dct0Rest, RowSound c r := by
  unfold dct0Rest dct0Rest1 dct0Rest2 dct0Rest3 dct0Rest4 dct0Rest5
  simp only [List.forall_mem_append]
  refine ⟨⟨⟨⟨?escapeChunk, ?_⟩, ?_⟩, ?_⟩, ?_⟩
  case escapeChunk =>
    repeat (refine List.forall_mem_cons.2 ⟨.sign (fun _ => rfl) (fun _ => hc) (fun _ => rfl), ?_⟩)
    refine List.forall_mem_cons.2 ⟨.escape (fun _ _ => rfl) (fun _ _ => hc) (fun _ _ => rfl), ?_⟩
    repeat (refine List.forall_mem_cons.2 ⟨.sign (fun _ => rfl) (fun _ => hc) (fun _ => rfl), ?_⟩)
    exact List.forall_mem_nil _
  all_goals
    repeat (refine List.forall_mem_cons.2 ⟨.sign (fun _ => rfl) (fun _ => hc) (fun _ => rfl), ?_⟩)
    exact List.forall_mem_nil _

theorem dct0Table_sound : ∀ r ∈ dct0Table, RowSound .dct0 r :=
  List.forall_mem_append.2 ⟨List.forall_mem_cons.2 ⟨.plain rfl rfl rfl, List.forall_mem_cons.2
    ⟨.sign (fun _ => rfl) (fun _ => rfl) (fun _ => rfl), List.forall_mem_nil _⟩⟩, dct0Rest_sound rfl⟩

theorem dct0FirstTable_sound : ∀ r ∈ dct0FirstTable, RowSound .dct0First r :=
  List.forall_mem_append.2 ⟨List.forall_mem_cons.2
    ⟨.sign (fun _ => rfl) (fun _ => rfl) (fun _ => rfl), List.forall_mem_nil _⟩, dct0Rest_sound rfl⟩

theorem dct1Table_sound : ∀ r ∈ dct1Table, RowSound .dct1 r := by
  unfold dct1Table dct1Table1 dct1Table2 dct1Table3 dct1Table4 dct1Table5
  simp only [List.forall_mem_append]
  refine ⟨⟨⟨⟨?escapeChunk, ?_⟩, ?_⟩, ?_⟩, ?_⟩
  case escapeChunk =>
    repeat (refine List.forall_mem_cons.2 ⟨.sign (fun _ => rfl) (fun _ => rfl) (fun _ => rfl), ?_⟩)
    refine List.forall_mem_cons.2 ⟨.plain rfl rfl rfl, ?_⟩
    repeat (refine List.forall_mem_cons.2 ⟨.sign (fun _ => rfl) (fun _ => rfl) (fun _ => rfl), ?_⟩)
    refine List.forall_mem_cons.2 ⟨.escape (fun _ _ => rfl) (fun _ _ => rfl) (fun _ _ => rfl), ?_⟩
    repeat (refine List.forall_mem_cons.2 ⟨.sign (fun _ => rfl) (fun _ => rfl) (fun _ => rfl), ?_⟩)
    exact List.forall_mem_nil _
  all_goals
    repeat (refine List.forall_mem_cons.2 ⟨.sign (fun _ => rfl) (fun _ => rfl) (fun _ => rfl), ?_⟩)
    exact List.forall_mem_nil _

theorem tableOf_sound (c : DecCtx) : ∀ r ∈ tableOf c, RowSound c r := by
  cases c with
  | mba => exact mbaTable_sound
  | mbTypeI => exact mbTypeITable_sound
  | mbTypeP => exact mbTypePTable_sound
  | mbTypeB => exact mbTypeBTable_sound
  | cbp => exact cbpTable_sound
  | mv => exact mvTable_sound
  | dcl => exact dclTable_sound
  | dcc => exact dccTable_sound
  | dct0 => exact dct0Table_sound
  | dct0First => exact dct0FirstTable_sound
  | dct1 => exact dct1Table_sound
  | _ => exact List.forall_mem_nil _

theorem lookupVlc_sound {c : DecCtx} {rd : Nat → Bool} {i : Instr} (h : lookupVlc (tableOf c) rd = some i) :
    i.wf = true ∧ i.inCtx c = true ∧ Agrees rd (encode i) := by
  obtain ⟨r, hr, rfl⟩ := Option.map_eq_some_iff.mp h
  obtain ⟨hwf, hctx, tail, henc, htail⟩ := tableOf_sound c r (List.mem_of_find?_eq_some hr) fun k => rd (r.len + k)
  have hword : fld rd 0 r.len = r.code := by simpa using List.find?_some hr
  refine ⟨hwf, hctx, ?_⟩
  rw [henc, agrees_append, natBits_length, ← hword]
  exact ⟨agrees_natBits_fld rd r.len, htail⟩

end Sys2Proof
end

section
/-! PROOFS. Decoding and encoding in the contexts of fixed layouts (R150 to R153, R163, R306, R312, R320, R330, R340), and
for every instruction. -/

namespace Sys2Proof

variable {rd : Nat → Bool} {p fuel : Nat}

-- ---------------------------------------------------------------- matrices and chains (R306, R321)

@[simp] theorem agreesAt_natBits {n v : Nat} (hv : v < 2 ^ n) : AgreesAt rd p (natBits n v) ↔ fld rd p n = v := by
  rw [fld_shift]
  exact ⟨fun h => fld_of_agrees h hv, fun h => h ▸ agrees_natBits_fld _ n⟩

theorem readBytes_length (rd : Nat → Bool) (p n : Nat) : (readBytes rd p n).length = n := by
  induction n generalizing p with
  | zero => rfl
  | succ n ih => rw [readBytes, List.length_cons, ih]

theorem bytesBits_length (l : List Byte) : (bytesBits l).length = 8 * l.length := by
  induction l with
  | nil => rfl
  | cons b l ih =>
    rw [bytesBits, List.flatMap_cons, List.length_append, ← bytesBits, ih, bvBits_length, List.length_cons]
    omega

theorem readBytes_of_agreesAt {l : List Byte} (h : AgreesAt rd p (bytesBits l)) : readBytes rd p l.length = l := by
  induction l generalizing p with
  | nil => rfl
  | cons b l ih =>
    rw [bytesBits, List.flatMap_cons, agreesAt_append, agreesAt_bvBits, bvBits_length] at h
    rw [List.length_cons, readBytes, h.1, ih h.2]

theorem matrixWf_readMatrix (rd : Nat → Bool) (p : Nat) : matrixWf (readMatrix rd p) = true := by
  unfold readMatrix
  split
  · simp [matrixWf, readBytes_length]
  · rfl

theorem matrixBits_length {m : Option (List Byte)} (h : matrixWf m = true) : (matrixBits m).length = matrixLen m := by
  cases m with
  | none => rfl
  | some m =>
    have : m.length = 64 := eq_of_beq h
    simp [matrixBits, matrixLen, bytesBits_length, this]

theorem readMatrix_of_agreesAt {m : Option (List Byte)} (hm : matrixWf m = true) (h : AgreesAt rd p (matrixBits m)) :
    readMatrix rd p = m := by
  cases m with
  | none => rw [readMatrix, (agreesAt_cons.mp h).1]; rfl
  | some m =>
    have hlen : m.length = 64 := eq_of_beq hm
    obtain ⟨hflag, hbytes⟩ := agreesAt_cons.mp h
    rw [readMatrix, if_pos hflag, ← hlen, readBytes_of_agreesAt hbytes]

theorem readChain_of_agreesAt {extra : List Byte} (h : AgreesAt rd p (chainBits extra))
    (hf : (chainBits extra).length ≤ fuel) : readChain rd fuel p = extra := by
  induction extra generalizing p fuel with
  | nil =>
    cases fuel with
    | zero => rfl
    | succ fuel => simp [readChain, (agreesAt_cons.mp h).1]
  | cons b l ih =>
    rw [chainBits, List.cons_append, List.length_cons, List.length_append, bvBits_length] at hf
    obtain ⟨fuel, rfl⟩ : ∃ n, fuel = n + 1 := ⟨fuel - 1, by omega⟩
    rw [chainBits, List.cons_append, agreesAt_cons, agreesAt_append, agreesAt_bvBits, bvBits_length] at h
    obtain ⟨hflag, hbyte, hrest⟩ := h
    rw [readChain, if_pos hflag, hbyte, ih hrest (by omega)]

-- ---------------------------------------------------------------- each layout reads back what was written

namespace DecodesBack

/-- A decoder that reads back the fields of `i` from the places they are written at decodes `i`. -/
theorem of_fields {c : DecCtx} {i : Instr}
    (h : ∀ rd fuel, AgreesAt rd 0 (encode i) → (encode i).length ≤ fuel → decode c rd fuel = some i) :
    DecodesBack c i := fun rd fuel hrd => h rd fuel (agreesAt_zero.mpr hrd)

theorem startCode {c : Byte} {i : Instr} (enc : encode i = startCodeBits c) (hi : startCodeOf c = i) :
    DecodesBack .startCode i := by
  refine of_fields fun rd fuel h _ => ?_
  rw [enc, startCodeBits, agreesAt_append, agreesAt_bvBits, natBits_length, Nat.zero_add] at h
  rw [decode, h.2, hi]

theorem extId {n : Nat} {i : Instr} (enc : encode i = natBits 4 n) (hn : n < 16) (hi : extensionOf (BitVec.ofNat 4 n) = i) :
    DecodesBack .extId i := by
  refine of_fields fun rd fuel h _ => ?_
  rw [enc, agreesAt_natBits hn] at h
  rw [decode, bv, h, hi]

theorem sequenceHeader {hs vs : BitVec 12} {ar fr : BitVec 4} {br : BitVec 18} {mk : Bool} {vbv : BitVec 10} {cp : Bool}
    {intra nonIntra : Option (List Byte)} (hintra : matrixWf intra = true) (hnonIntra : matrixWf nonIntra = true) :
    DecodesBack .seqHeader (.sequence_header_fields hs vs ar fr br mk vbv cp intra nonIntra) := by
  refine of_fields fun rd fuel h _ => ?_
  simp [encode, matrixBits_length hintra] at h
  obtain ⟨rfl, rfl, rfl, rfl, rfl, rfl, rfl, rfl, h1, h2⟩ := h
  rw [decode, readSequenceHeader, readMatrix_of_agreesAt hintra h1, readMatrix_of_agreesAt hnonIntra h2]

theorem sequenceExtension {pl : BitVec 8} {prog : Bool} {cf hx vx : BitVec 2} {bx : BitVec 12} {mk : Bool}
    {vbvx : BitVec 8} {ld : Bool} {fn : BitVec 2} {fd : BitVec 5} :
    DecodesBack .seqExt (.sequence_extension_fields pl prog cf hx vx bx mk vbvx ld fn fd) := by
  refine of_fields fun rd fuel h _ => ?_
  simp [encode, natBits_length] at h
  obtain ⟨-, rfl, rfl, rfl, rfl, rfl, rfl, rfl, rfl, rfl, rfl, rfl⟩ := h
  rfl

theorem quantMatrix {a b c d : Option (List Byte)} (ha : matrixWf a = true) (hb : matrixWf b = true)
    (hc : matrixWf c = true) (hd : matrixWf d = true) :
    DecodesBack .quantMatrix (.quant_matrix_extension_fields a b c d) := by
  refine of_fields fun rd fuel h _ => ?_
  simp [encode, natBits_length, matrixBits_length, *] at h
  obtain ⟨-, h1, h2, h3, h4⟩ := h
  rw [decode, readQuantMatrix, readMatrix_of_agreesAt ha h1, readMatrix_of_agreesAt hb h2, readMatrix_of_agreesAt hc h3,
    readMatrix_of_agreesAt hd h4]

theorem pictureCodingExtension {f00 f01 f10 f11 : BitVec 4} {dcp ps : BitVec 2}
    {tff fpfd cmv qst ivf alt rff c420 pf : Bool} {cd : Option CompositeDisplay} :
    DecodesBack .picCodingExt
      (.picture_coding_extension_fields f00 f01 f10 f11 dcp ps tff fpfd cmv qst ivf alt rff c420 pf cd) := by
  refine of_fields fun rd fuel h _ => ?_
  cases cd with
  | none =>
    simp [encode, natBits_length, compositeBits] at h
    obtain ⟨-, rfl, rfl, rfl, rfl, rfl, rfl, rfl, rfl, rfl, rfl, rfl, rfl, rfl, rfl, rfl, h33⟩ := h
    simp [decode, readPictureCodingExtension, h33]
  | some d =>
    obtain ⟨va, fs, sc, ba, sp⟩ := d
    simp [encode, natBits_length, compositeBits] at h
    obtain ⟨-, rfl, rfl, rfl, rfl, rfl, rfl, rfl, rfl, rfl, rfl, rfl, rfl, rfl, rfl, rfl, h33, rfl, rfl, rfl, rfl, rfl⟩ := h
    simp [decode, readPictureCodingExtension, h33]

theorem gop {tc : BitVec 25} {cg bl : Bool} : DecodesBack .gop (.group_of_pictures_fields tc cg bl) := by
  refine of_fields fun rd fuel h _ => ?_
  simp [encode] at h
  obtain ⟨rfl, rfl, rfl⟩ := h
  rfl

theorem bv_of_fld_eq {n v : Nat} (h : fld rd p n = v) : bv rd p n = BitVec.ofNat n v := by rw [bv, h]

theorem pictureHeaderI {tr : BitVec 10} {vd : BitVec 16} {extra : List Byte} :
    DecodesBack .picHeader (.picture_header_I_fields tr vd extra) := by
  refine of_fields fun rd fuel h hf => ?_
  simp [encode, natBits_length] at h hf
  obtain ⟨rfl, hct, rfl, hextra⟩ := h
  have hchain := readChain_of_agreesAt (fuel := fuel) hextra (by omega)
  simp [decode, readPictureHeader, bv_of_fld_eq hct, hchain]

theorem pictureHeaderP {tr : BitVec 10} {vd : BitVec 16} {fpf : Bool} {ff : BitVec 3} {extra : List Byte} :
    DecodesBack .picHeader (.picture_header_P_fields tr vd fpf ff extra) := by
  refine of_fields fun rd fuel h hf => ?_
  simp [encode, natBits_length] at h hf
  obtain ⟨rfl, hct, rfl, rfl, rfl, hextra⟩ := h
  have hchain := readChain_of_agreesAt (fuel := fuel) hextra (by omega)
  simp [decode, readPictureHeader, bv_of_fld_eq hct, hchain]

theorem pictureHeaderB {tr : BitVec 10} {vd : BitVec 16} {fpf : Bool} {ff : BitVec 3} {fpb : Bool} {bf : BitVec 3}
    {extra : List Byte} : DecodesBack .picHeader (.picture_header_B_fields tr vd fpf ff fpb bf extra) := by
  refine of_fields fun rd fuel h hf => ?_
  simp [encode, natBits_length] at h hf
  obtain ⟨rfl, hct, rfl, rfl, rfl, rfl, rfl, hextra⟩ := h
  have hchain := readChain_of_agreesAt (fuel := fuel) hextra (by omega)
  simp [decode, readPictureHeader, bv_of_fld_eq hct, hchain]

theorem pictureHeaderOther {tr : BitVec 10} {ct : BitVec 3} {vd : BitVec 16} {extra : List Byte}
    (hct : ¬ (ct = 1 ∨ ct = 2 ∨ ct = 3)) : DecodesBack .picHeader (.picture_header_other_type_fields tr ct vd extra) := by
  refine of_fields fun rd fuel h hf => ?_
  simp [encode] at h hf
  obtain ⟨rfl, rfl, rfl, hextra⟩ := h
  simp only [not_or] at hct
  have hchain := readChain_of_agreesAt (fuel := fuel) hextra (by omega)
  simp only [decode, readPictureHeader, hct, if_false, hchain]

theorem sliceHeader {q : BitVec 5} : DecodesBack .sliceHeader (.slice_header_fields__no_intra_slice q) := by
  refine of_fields fun rd fuel h _ => ?_
  simp [encode] at h
  obtain ⟨rfl, hflag⟩ := h
  simp [decode, readSliceHeader, hflag]

theorem sliceHeaderIntra {q : BitVec 5} {i : BitVec 8} {extra : List Byte} (hq : q ≠ 0) :
    DecodesBack .sliceHeader (.slice_header_fields__intra_slice q i extra) := by
  refine of_fields fun rd fuel h hf => ?_
  simp [encode] at h hf
  obtain ⟨rfl, hflag, rfl, hextra⟩ := h
  have hchain := readChain_of_agreesAt (fuel := fuel) hextra (by omega)
  simp only [decode, readSliceHeader, hq, hflag, if_true, if_false, hchain]

/-- An instruction that is one field, of `n` bits. -/
theorem field {c : DecCtx} {n : Nat} {v : BitVec n} {build : BitVec n → Instr} (enc : encode (build v) = bvBits v)
    (dec : ∀ rd fuel, decode c rd fuel = some (build (bv rd 0 n))) : DecodesBack c (build v) := by
  refine of_fields fun rd fuel h _ => ?_
  rw [enc, agreesAt_bvBits] at h
  rw [dec, h]

/-- An instruction that is one bit. -/
theorem bit {c : DecCtx} {b : Bool} {build : Bool → Instr} (enc : encode (build b) = [b])
    (dec : ∀ rd fuel, decode c rd fuel = some (build (rd 0))) : DecodesBack c (build b) := by
  refine of_fields fun rd fuel h _ => ?_
  rw [enc, agreesAt_cons] at h
  rw [dec, h.1]

theorem dcDifferential {size v : Nat} (hv : v < 2 ^ size) :
    DecodesBack (.dcDiff size) (.dct_dc_differential size v) := by
  refine of_fields fun rd fuel h _ => ?_
  rw [encode, agreesAt_natBits hv] at h
  rw [decode, h]

-- ---------------------------------------------------------------- every instruction

theorem of_beq {c k : DecCtx} {i : Instr} (hc : (c == k) = true) (h : DecodesBack k i) : DecodesBack c i :=
  eq_of_beq hc ▸ h

theorem of_beq_or {c k k' : DecCtx} {i : Instr} (hc : (c == k || c == k') = true) (h : DecodesBack k i)
    (h' : DecodesBack k' i) : DecodesBack c i :=
  (Bool.or_eq_true _ _ ▸ hc).elim (.of_beq · h) (.of_beq · h')

/-- Well-formedness is asked for in the contexts of the layouts alone. -/
theorem of_layout {c k : DecCtx} {i : Instr} (hwf : c.isTable = true ∨ i.wf = true) (hc : (c == k) = true)
    (hk : k.isTable = false) (h : i.wf = true → DecodesBack k i) : DecodesBack c i := by
  rw [eq_of_beq hc, hk] at hwf
  exact .of_beq hc (h (hwf.resolve_left Bool.false_ne_true))

end DecodesBack

theorem startCodeOf_slice {v : Byte} (h : isSliceCode v = true) : startCodeOf v = .slice_start_code v := by
  have hv : v ≠ 0x00 := by
    rintro rfl
    cases h
  rw [startCodeOf, if_neg hv, if_pos h]

theorem startCodeOf_system {v : Byte} (h : 0xB9 ≤ v.toNat) : startCodeOf v = .system_start_code v := by
  have hne {c : Byte} (hc : c.toNat < 0xB9) : v ≠ c := fun he => by rw [he] at h; omega
  have hslice : isSliceCode v = false := by
    simp only [isSliceCode, Bool.and_eq_false_iff, decide_eq_false_iff_not]
    omega
  simp only [startCodeOf, hslice, Bool.false_eq_true, if_false, hne (c := 0x00) (by decide), hne (c := 0xB0) (by decide),
    hne (c := 0xB1) (by decide), hne (c := 0xB2) (by decide), hne (c := 0xB3) (by decide), hne (c := 0xB4) (by decide),
    hne (c := 0xB5) (by decide), hne (c := 0xB6) (by decide), hne (c := 0xB7) (by decide), hne (c := 0xB8) (by decide)]

/-- Every instruction decodes back from its encoding in each of its contexts. -/
theorem decodesBack_of_inCtx {c : DecCtx} {i : Instr} (hwf : c.isTable = true ∨ i.wf = true)
    (hi : i.inCtx c = true) : DecodesBack c i := by
  cases i with
  | slice_start_code v => exact .of_layout hwf hi rfl fun h => .startCode rfl (startCodeOf_slice h)
  | system_start_code v => exact .of_layout hwf hi rfl fun h => .startCode rfl (startCodeOf_system (of_decide_eq_true h))
  | picture_start_code | reserved_B0 | reserved_B1 | reserved_B6 | user_data_start_code | sequence_header_code
  | sequence_error_code | extension_start_code | sequence_end_code | group_start_code =>
    exact .of_beq hi (.startCode rfl rfl)
  | extension_id_0_reserved | extension_id_1_sequence_extension | extension_id_2_sequence_display_extension
  | extension_id_3_quant_matrix_extension | extension_id_4_copyright_extension
  | extension_id_5_sequence_scalable_extension | extension_id_6_reserved
  | extension_id_7_picture_display_extension | extension_id_8_picture_coding_extension
  | extension_id_9_picture_spatial_scalable_extension | extension_id_10_picture_temporal_scalable_extension
  | extension_id_11_camera_parameters_extension | extension_id_12_itu_t_extension | extension_id_13_reserved
  | extension_id_14_reserved | extension_id_15_reserved => exact .of_beq hi (.extId rfl (by decide) rfl)
  | sequence_header_fields =>
    exact .of_layout hwf hi rfl fun h => have h := Bool.and_eq_true_iff.mp h; .sequenceHeader h.1 h.2
  | sequence_extension_fields => exact .of_beq hi .sequenceExtension
  | quant_matrix_extension_fields =>
    refine .of_layout hwf hi rfl fun h => ?_
    simp only [Instr.wf, Bool.and_eq_true, and_assoc] at h
    obtain ⟨ha, hb, hc, hd⟩ := h
    exact .quantMatrix ha hb hc hd
  | picture_coding_extension_fields => exact .of_beq hi .pictureCodingExtension
  | group_of_pictures_fields => exact .of_beq hi .gop
  | picture_header_I_fields => exact .of_beq hi .pictureHeaderI
  | picture_header_P_fields => exact .of_beq hi .pictureHeaderP
  | picture_header_B_fields => exact .of_beq hi .pictureHeaderB
  | picture_header_other_type_fields =>
    exact .of_layout hwf hi rfl fun h => .pictureHeaderOther (by simpa [Instr.wf, and_assoc] using h)
  | slice_header_fields__no_intra_slice => exact .of_beq hi .sliceHeader
  | slice_header_fields__intra_slice => exact .of_layout hwf hi rfl fun h => .sliceHeaderIntra (bne_iff_ne.mp h)
  | frame_motion_type | macroblock_quantiser_scale_code => exact .of_beq hi (.field rfl fun _ _ => rfl)
  | dct_type | motion_vertical_field_select | concealment_marker_bit => exact .of_beq hi (.bit rfl fun _ _ => rfl)
  | dct_dc_differential =>
    exact .of_layout hwf hi rfl fun h => .dcDifferential (of_decide_eq_true (Bool.and_eq_true_iff.mp h).2)
  | MBA_1 | MBA_3 | MBA_2 | MBA_5 | MBA_4 | MBA_7 | MBA_6 | MBA_9 | MBA_8 | MBA_15 | MBA_14 | MBA_13 | MBA_12
  | MBA_11 | MBA_10 | MBA_21 | MBA_20 | MBA_19 | MBA_18 | MBA_17 | MBA_16 | MBA_ESC | MBA_33 | MBA_32 | MBA_31
  | MBA_30 | MBA_29 | MBA_28 | MBA_27 | MBA_26 | MBA_25 | MBA_24 | MBA_23 | MBA_22 | MBTYPE_I_I | MBTYPE_I_Q_I
  | MBTYPE_P_F_P | MBTYPE_P_P | MBTYPE_P_F | MBTYPE_P_Q_P | MBTYPE_P_Q_F_P | MBTYPE_P_I | MBTYPE_P_Q_I
  | MBTYPE_B_F_B | MBTYPE_B_F_B_P | MBTYPE_B_B | MBTYPE_B_B_P | MBTYPE_B_F | MBTYPE_B_F_P | MBTYPE_B_Q_F_B_P
  | MBTYPE_B_I | MBTYPE_B_Q_I | MBTYPE_B_Q_B_P | MBTYPE_B_Q_F_P | CBP_60 | CBP_32 | CBP_16 | CBP_8 | CBP_4
  | CBP_62 | CBP_2 | CBP_61 | CBP_1 | CBP_56 | CBP_52 | CBP_44 | CBP_28 | CBP_40 | CBP_20 | CBP_48 | CBP_12
  | CBP_63 | CBP_3 | CBP_36 | CBP_24 | CBP_34 | CBP_18 | CBP_10 | CBP_6 | CBP_33 | CBP_17 | CBP_9 | CBP_5
  | CBP_58 | CBP_54 | CBP_46 | CBP_30 | CBP_57 | CBP_53 | CBP_45 | CBP_29 | CBP_38 | CBP_26 | CBP_37 | CBP_25
  | CBP_43 | CBP_23 | CBP_51 | CBP_15 | CBP_42 | CBP_22 | CBP_50 | CBP_14 | CBP_41 | CBP_21 | CBP_49 | CBP_13
  | CBP_35 | CBP_19 | CBP_11 | CBP_7 | CBP_0 | CBP_39 | CBP_27 | CBP_59 | CBP_55 | CBP_47 | CBP_31 | MV_0
  | MV_1 | MV_2 | MV_3 | MV_4 | MV_7 | MV_6 | MV_5 | MV_10 | MV_9 | MV_8 | MV_16 | MV_15 | MV_14 | MV_13
  | MV_12 | MV_11 | DCL_1 | DCL_2 | DCL_0 | DCL_3 | DCL_4 | DCL_5 | DCL_6 | DCL_7 | DCL_8 | DCL_9 | DCL_10
  | DCL_11 | DCC_0 | DCC_1 | DCC_2 | DCC_3 | DCC_4 | DCC_5 | DCC_6 | DCC_7 | DCC_8 | DCC_9 | DCC_10 | DCC_11
  | DCT0_EOB | DCT1_EOB => exact .of_beq hi (.plain rfl rfl rfl)
  | DCT0__0_1 | DCT0_FIRST__0_1 | DCT1__0_1 | DCT1__1_1 | DCT1__0_2 | DCT1__0_3 | DCT1__2_1 | DCT1__1_2
  | DCT1__3_1 | DCT1__0_4 | DCT1__0_5 | DCT1__0_7 | DCT1__0_6 | DCT1__4_1 | DCT1__5_1 | DCT1__7_1 | DCT1__8_1
  | DCT1__6_1 | DCT1__2_2 | DCT1__9_1 | DCT1__1_3 | DCT1__10_1 | DCT1__0_8 | DCT1__0_9 | DCT1__1_5 | DCT1__11_1
  | DCT1__0_11 | DCT1__0_10 | DCT1__13_1 | DCT1__12_1 | DCT1__3_2 | DCT1__1_4 | DCT1__0_12 | DCT1__0_13
  | DCT1__2_3 | DCT1__4_2 | DCT1__0_14 | DCT1__0_15 | DCT1__5_2 | DCT1__14_1 | DCT1__15_1 | DCT1__2_4
  | DCT1__16_1 | DCT1__8_2 | DCT1__4_3 | DCT1__7_2 | DCT1__21_1 | DCT1__20_1 | DCT1__19_1 | DCT1__18_1
  | DCT1__3_3 | DCT1__6_2 | DCT1__17_1 | DCT1__10_2 | DCT1__9_2 | DCT1__5_3 | DCT1__3_4 | DCT1__2_5 | DCT1__1_7
  | DCT1__1_6 | DCT1__26_1 | DCT1__25_1 | DCT1__24_1 | DCT1__23_1 | DCT1__22_1 | DCT1__0_31 | DCT1__0_30
  | DCT1__0_29 | DCT1__0_28 | DCT1__0_27 | DCT1__0_26 | DCT1__0_25 | DCT1__0_24 | DCT1__0_23 | DCT1__0_22
  | DCT1__0_21 | DCT1__0_20 | DCT1__0_19 | DCT1__0_18 | DCT1__0_17 | DCT1__0_16 | DCT1__0_40 | DCT1__0_39
  | DCT1__0_38 | DCT1__0_37 | DCT1__0_36 | DCT1__0_35 | DCT1__0_34 | DCT1__0_33 | DCT1__0_32 | DCT1__1_14
  | DCT1__1_13 | DCT1__1_12 | DCT1__1_11 | DCT1__1_10 | DCT1__1_9 | DCT1__1_8 | DCT1__1_18 | DCT1__1_17
  | DCT1__1_16 | DCT1__1_15 | DCT1__6_3 | DCT1__16_2 | DCT1__15_2 | DCT1__14_2 | DCT1__13_2 | DCT1__12_2
  | DCT1__11_2 | DCT1__31_1 | DCT1__30_1 | DCT1__29_1 | DCT1__28_1 | DCT1__27_1 => exact .of_beq hi (.sign rfl rfl rfl)
  | DCT0__1_1 | DCT0__0_2 | DCT0__2_1 | DCT0__0_3 | DCT0__4_1 | DCT0__3_1 | DCT0__7_1 | DCT0__6_1 | DCT0__1_2
  | DCT0__5_1 | DCT0__2_2 | DCT0__9_1 | DCT0__0_4 | DCT0__8_1 | DCT0__13_1 | DCT0__0_6 | DCT0__12_1
  | DCT0__11_1 | DCT0__3_2 | DCT0__1_3 | DCT0__0_5 | DCT0__10_1 | DCT0__16_1 | DCT0__5_2 | DCT0__0_7
  | DCT0__2_3 | DCT0__1_4 | DCT0__15_1 | DCT0__14_1 | DCT0__4_2 | DCT0__0_11 | DCT0__8_2 | DCT0__4_3
  | DCT0__0_10 | DCT0__2_4 | DCT0__7_2 | DCT0__21_1 | DCT0__20_1 | DCT0__0_9 | DCT0__19_1 | DCT0__18_1
  | DCT0__1_5 | DCT0__3_3 | DCT0__0_8 | DCT0__6_2 | DCT0__17_1 | DCT0__10_2 | DCT0__9_2 | DCT0__5_3 | DCT0__3_4
  | DCT0__2_5 | DCT0__1_7 | DCT0__1_6 | DCT0__0_15 | DCT0__0_14 | DCT0__0_13 | DCT0__0_12 | DCT0__26_1
  | DCT0__25_1 | DCT0__24_1 | DCT0__23_1 | DCT0__22_1 | DCT0__0_31 | DCT0__0_30 | DCT0__0_29 | DCT0__0_28
  | DCT0__0_27 | DCT0__0_26 | DCT0__0_25 | DCT0__0_24 | DCT0__0_23 | DCT0__0_22 | DCT0__0_21 | DCT0__0_20
  | DCT0__0_19 | DCT0__0_18 | DCT0__0_17 | DCT0__0_16 | DCT0__0_40 | DCT0__0_39 | DCT0__0_38 | DCT0__0_37
  | DCT0__0_36 | DCT0__0_35 | DCT0__0_34 | DCT0__0_33 | DCT0__0_32 | DCT0__1_14 | DCT0__1_13 | DCT0__1_12
  | DCT0__1_11 | DCT0__1_10 | DCT0__1_9 | DCT0__1_8 | DCT0__1_18 | DCT0__1_17 | DCT0__1_16 | DCT0__1_15
  | DCT0__6_3 | DCT0__16_2 | DCT0__15_2 | DCT0__14_2 | DCT0__13_2 | DCT0__12_2 | DCT0__11_2 | DCT0__31_1
  | DCT0__30_1 | DCT0__29_1 | DCT0__28_1 | DCT0__27_1 => exact .of_beq_or hi (.sign rfl rfl rfl) (.sign rfl rfl rfl)
  | DCT0_ESC => exact .of_beq_or hi (.escape rfl rfl rfl) (.escape rfl rfl rfl)
  | DCT1_ESC => exact .of_beq hi (.escape rfl rfl rfl)

/-- Settles O2: every instruction decodes back in each of its contexts (`decodesBack_of_inCtx`). -/
theorem decodeEncode : Obligations.DecodeEncode := fun _ _ rd fuel hwf hi => decodesBack_of_inCtx (.inr hwf) hi rd fuel

-- ---------------------------------------------------------------- what is decoded

theorem startCodeOf_sound (v : Byte) : (startCodeOf v).inCtx .startCode = true ∧ (startCodeOf v).wf = true := by
  unfold startCodeOf
  split_ifs with h00 hslice hB0 hB1 hB2 hB3 hB4 hB5 hB6 hB7 hB8
  case neg =>
    refine ⟨rfl, decide_eq_true ?_⟩
    simp only [isSliceCode, Bool.and_eq_true, decide_eq_true_eq] at hslice
    bv_omega
  · exact ⟨rfl, rfl⟩
  · exact ⟨rfl, hslice⟩
  all_goals exact ⟨rfl, rfl⟩

theorem extensionOf_sound (id : BitVec 4) : (extensionOf id).inCtx .extId = true ∧ (extensionOf id).wf = true := by
  unfold extensionOf
  split <;> exact ⟨rfl, rfl⟩

theorem readPictureHeader_sound (rd : Nat → Bool) (fuel : Nat) :
    (readPictureHeader rd fuel).inCtx .picHeader = true ∧ (readPictureHeader rd fuel).wf = true := by
  unfold readPictureHeader
  dsimp only
  split_ifs with hI hP hB
  case neg => exact ⟨rfl, by simpa [Instr.wf, and_assoc] using ⟨hI, hP, hB⟩⟩
  all_goals exact ⟨rfl, rfl⟩

theorem readSliceHeader_sound (rd : Nat → Bool) (fuel : Nat) :
    (readSliceHeader rd fuel).inCtx .sliceHeader = true ∧ (readSliceHeader rd fuel).wf = true := by
  unfold readSliceHeader
  dsimp only
  split_ifs with hq hintra
  · exact ⟨rfl, rfl⟩
  · exact ⟨rfl, bne_iff_ne.mpr hq⟩
  · exact ⟨rfl, rfl⟩

/-- Whatever the bits, what a layout reads is an instruction of its context, well-formed if its size is (R152, R153). -/
theorem decode_layout_sound {c : DecCtx} (hc : c.isTable = false) (hsize : ∀ n, c = .dcDiff n → 1 ≤ n ∧ n ≤ 11)
    (rd : Nat → Bool) (fuel : Nat) : ∃ i, decode c rd fuel = some i ∧ i.inCtx c = true ∧ i.wf = true := by
  cases c with
  | startCode => exact ⟨_, rfl, startCodeOf_sound _⟩
  | extId => exact ⟨_, rfl, extensionOf_sound _⟩
  | seqHeader => exact ⟨_, rfl, rfl, Bool.and_eq_true_iff.mpr ⟨matrixWf_readMatrix _ _, matrixWf_readMatrix _ _⟩⟩
  | quantMatrix =>
    refine ⟨_, rfl, rfl, ?_⟩
    simp only [readQuantMatrix, Instr.wf, matrixWf_readMatrix, Bool.and_self]
  | picHeader => exact ⟨_, rfl, readPictureHeader_sound _ _⟩
  | sliceHeader => exact ⟨_, rfl, readSliceHeader_sound _ _⟩
  | dcDiff n =>
    obtain ⟨hlo, hhi⟩ := hsize n rfl
    exact ⟨_, rfl, beq_self_eq_true _, by simp [Instr.wf, hlo, hhi, fld_lt]⟩
  | seqExt | picCodingExt | gop | frameMotionType | dctType | mbQuant | fieldSelect | marker => exact ⟨_, rfl, rfl, rfl⟩
  | mba | mbTypeI | mbTypeP | mbTypeB | cbp | mv | dcl | dcc | dct0 | dct0First | dct1 => cases hc

/-- Settles O3: a table's rows are sound (`lookupVlc_sound`), and so is every layout. -/
theorem decodeSound : Obligations.DecodeSound := by
  intro c rd fuel i hsize h
  cases hc : c.isTable with
  | true =>
    rw [decode_table hc] at h
    obtain ⟨hwf, hctx, hagrees⟩ := lookupVlc_sound h
    exact ⟨hwf, hctx, fun _ => hagrees⟩
  | false =>
    obtain ⟨j, hj, hctx, hwf⟩ := decode_layout_sound hc hsize rd fuel
    obtain rfl := Option.some.inj (hj.symm.trans h)
    exact ⟨hwf, hctx, fun hfalse => absurd hfalse Bool.false_ne_true⟩

/-- An instruction is decoded in its own context alone. -/
theorem inCtx_of_decode {c : DecCtx} {rd : Nat → Bool} {fuel : Nat} {i : Instr} (h : decode c rd fuel = some i) :
    i.inCtx c = true := by
  by_cases hdc : ∃ n, c = .dcDiff n
  · obtain ⟨n, rfl⟩ := hdc
    cases h
    exact beq_self_eq_true _
  · obtain ⟨-, hctx, -⟩ := decodeSound c rd fuel i (fun n hn => absurd ⟨n, hn⟩ hdc) h
    exact hctx


end Sys2Proof
end

section
/-! PROOFS. What a step can do, said once: the operation every element of a context runs, and the places from which a step
reaches one (R207, R230, R246). -/

namespace Sys2Proof.Machine

-- ---------------------------------------------------------------- the operations of a context

/-- An element read in context `c` runs the operation `f`. -/
inductive Runs : DecCtx → (State → Flow) → Prop
  | startCode (c : Byte) : Runs .startCode (startCodeElem c)
  | extensionSkipped (n : Nat) : Runs .extId (extensionSkipped n)
  | sequenceExtensionId : Runs .extId (extensionRead .seqExt)
  | pictureCodingExtensionId : Runs .extId (extensionRead .picCodingExt)
  | quantMatrixId : Runs .extId quantMatrixId
  | sequenceHeader {hs vs : BitVec 12} {ar fr : BitVec 4} {br : BitVec 18} {vbv : BitVec 10} {cp : Bool}
      {intra nonIntra : Option (List Byte)} :
      Runs .seqHeader (sequenceHeaderFields hs vs ar fr br vbv cp intra nonIntra)
  | sequenceExtension {pl : BitVec 8} {prog : Bool} {cf hx vx : BitVec 2} {bx : BitVec 12} {vbvx : BitVec 8}
      {ld : Bool} {fn : BitVec 2} {fd : BitVec 5} :
      Runs .seqExt (sequenceExtensionFields pl prog cf hx vx bx vbvx ld fn fd)
  | quantMatrix {a b c d : Option (List Byte)} : Runs .quantMatrix (quantMatrixFields a b c d)
  | pictureCodingExtension {f00 f01 f10 f11 : BitVec 4} {dcp ps : BitVec 2}
      {tff fpfd cmv qst ivf alt rff c420 pf : Bool} {cd : Option CompositeDisplay} :
      Runs .picCodingExt (pictureCodingExtensionFields f00 f01 f10 f11 dcp ps tff fpfd cmv qst ivf alt rff c420 pf cd)
  | gop : Runs .gop gopFields
  | pictureHeader {len : Nat} {tr : BitVec 10} {ct : BitVec 3} {vd : BitVec 16} {fields : PictureRegs → PictureRegs}
      {extra : List Byte} : Runs .picHeader (pictureHeaderFields len tr ct vd fields extra)
  | sliceHeader {q : BitVec 5} {rest : Nat} : Runs .sliceHeader (sliceHeaderFields q rest)
  | frameMotionType {m : BitVec 2} : Runs .frameMotionType (motionTypeField m)
  | dctType {t : Bool} : Runs .dctType (dctTypeField t)
  | mbQuant {q : BitVec 5} : Runs .mbQuant (mbQuantField q)
  | fieldSelect {f : Bool} : Runs .fieldSelect (fieldSelectField f)
  | marker : Runs .marker markerField
  | dcDifferential {size v : Nat} : Runs (.dcDiff size) (dcDiffField size v)
  | mba (len v : Nat) : Runs .mba (mbaCode len v)
  | mbaEscape (len : Nat) : Runs .mba (mbaEscape len)
  | mbType {c : DecCtx} (hc : c = .mbTypeI ∨ c = .mbTypeP ∨ c = .mbTypeB) (len : Nat) {f : MbFlags}
      (hb : f.b = true → c = .mbTypeB) : Runs c (typeCode len f)
  | cbp (len : Nat) (v : BitVec 6) : Runs .cbp (cbpCode len v)
  | mv (len m : Nat) : Runs .mv (mvCode len m)
  | dcSize {c : DecCtx} (hc : c = .dcl ∨ c = .dcc) (len : Nat) {size : Nat} (hsize : size ≤ 11) :
      Runs c (dcSizeCode len size)
  | coefficient {c : DecCtx} (hc : c = .dct0 ∨ c = .dct0First ∨ c = .dct1) (len run level : Nat) (sign : Bool) :
      Runs c (coefCode len run level sign)
  | escape {c : DecCtx} (hc : c = .dct0 ∨ c = .dct0First ∨ c = .dct1) (len : Nat) (run : BitVec 6) (level : BitVec 12) :
      Runs c (escapeCode len run level)
  | endOfBlock {c : DecCtx} (hc : c = .dct0 ∨ c = .dct0First ∨ c = .dct1) (len : Nat) : Runs c (endOfBlock len)

theorem Runs.of_beq {c k : DecCtx} {f : State → Flow} (hc : (c == k) = true) (h : Runs k f) : Runs c f :=
  eq_of_beq hc ▸ h

theorem dct0_or_first {c : DecCtx} (hc : (c == .dct0 || c == .dct0First) = true) :
    c = .dct0 ∨ c = .dct0First ∨ c = .dct1 := by
  rw [Bool.or_eq_true, beq_iff_eq, beq_iff_eq] at hc
  exact hc.imp_right .inl

/-- Every instruction of a context runs one of the context's operations. -/
theorem exec_runs {c : DecCtx} {i : Instr} (hi : i.inCtx c = true) :
    ∃ f, Runs c f ∧ ∀ s, exec i s = (f s).finish := by
  cases i with
  | slice_start_code | system_start_code | picture_start_code | reserved_B0 | reserved_B1 | reserved_B6
  | user_data_start_code | sequence_header_code | sequence_error_code | extension_start_code
  | sequence_end_code | group_start_code => exact ⟨_, .of_beq hi (.startCode _), fun _ => rfl⟩
  | extension_id_0_reserved | extension_id_2_sequence_display_extension | extension_id_4_copyright_extension
  | extension_id_5_sequence_scalable_extension | extension_id_6_reserved
  | extension_id_7_picture_display_extension | extension_id_9_picture_spatial_scalable_extension
  | extension_id_10_picture_temporal_scalable_extension | extension_id_11_camera_parameters_extension
  | extension_id_12_itu_t_extension | extension_id_13_reserved | extension_id_14_reserved
  | extension_id_15_reserved => exact ⟨_, .of_beq hi (.extensionSkipped _), fun _ => rfl⟩
  | extension_id_1_sequence_extension => exact ⟨_, .of_beq hi .sequenceExtensionId, fun _ => rfl⟩
  | extension_id_8_picture_coding_extension => exact ⟨_, .of_beq hi .pictureCodingExtensionId, fun _ => rfl⟩
  | extension_id_3_quant_matrix_extension => exact ⟨_, .of_beq hi .quantMatrixId, fun _ => rfl⟩
  | sequence_header_fields => exact ⟨_, .of_beq hi .sequenceHeader, fun _ => rfl⟩
  | sequence_extension_fields => exact ⟨_, .of_beq hi .sequenceExtension, fun _ => rfl⟩
  | quant_matrix_extension_fields => exact ⟨_, .of_beq hi .quantMatrix, fun _ => rfl⟩
  | picture_coding_extension_fields => exact ⟨_, .of_beq hi .pictureCodingExtension, fun _ => rfl⟩
  | group_of_pictures_fields => exact ⟨_, .of_beq hi .gop, fun _ => rfl⟩
  | picture_header_I_fields | picture_header_P_fields | picture_header_B_fields
  | picture_header_other_type_fields =>
    exact ⟨_, .of_beq hi .pictureHeader, fun _ => rfl⟩
  | slice_header_fields__no_intra_slice | slice_header_fields__intra_slice =>
    exact ⟨_, .of_beq hi .sliceHeader, fun _ => rfl⟩
  | frame_motion_type => exact ⟨_, .of_beq hi .frameMotionType, fun _ => rfl⟩
  | dct_type => exact ⟨_, .of_beq hi .dctType, fun _ => rfl⟩
  | macroblock_quantiser_scale_code => exact ⟨_, .of_beq hi .mbQuant, fun _ => rfl⟩
  | motion_vertical_field_select => exact ⟨_, .of_beq hi .fieldSelect, fun _ => rfl⟩
  | concealment_marker_bit => exact ⟨_, .of_beq hi .marker, fun _ => rfl⟩
  | dct_dc_differential => exact ⟨_, .of_beq hi .dcDifferential, fun _ => rfl⟩
  | MBA_1 | MBA_3 | MBA_2 | MBA_5 | MBA_4 | MBA_7 | MBA_6 | MBA_9 | MBA_8 | MBA_15 | MBA_14 | MBA_13 | MBA_12
  | MBA_11 | MBA_10 | MBA_21 | MBA_20 | MBA_19 | MBA_18 | MBA_17 | MBA_16 | MBA_33 | MBA_32 | MBA_31 | MBA_30
  | MBA_29 | MBA_28 | MBA_27 | MBA_26 | MBA_25 | MBA_24 | MBA_23 | MBA_22 =>
    exact ⟨_, .of_beq hi (.mba _ _), fun _ => rfl⟩
  | MBA_ESC => exact ⟨_, .of_beq hi (.mbaEscape _), fun _ => rfl⟩
  | MBTYPE_I_I | MBTYPE_I_Q_I => exact ⟨_, .of_beq hi (.mbType (.inl rfl) _ (by decide)), fun _ => rfl⟩
  | MBTYPE_P_F_P | MBTYPE_P_P | MBTYPE_P_F | MBTYPE_P_Q_P | MBTYPE_P_Q_F_P | MBTYPE_P_I | MBTYPE_P_Q_I =>
    exact ⟨_, .of_beq hi (.mbType (.inr (.inl rfl)) _ (by decide)), fun _ => rfl⟩
  | MBTYPE_B_F_B | MBTYPE_B_F_B_P | MBTYPE_B_B | MBTYPE_B_B_P | MBTYPE_B_F | MBTYPE_B_F_P | MBTYPE_B_Q_F_B_P
  | MBTYPE_B_I | MBTYPE_B_Q_I | MBTYPE_B_Q_B_P | MBTYPE_B_Q_F_P =>
    exact ⟨_, .of_beq hi (.mbType (.inr (.inr rfl)) _ fun _ => rfl), fun _ => rfl⟩
  | CBP_60 | CBP_32 | CBP_16 | CBP_8 | CBP_4 | CBP_62 | CBP_2 | CBP_61 | CBP_1 | CBP_56 | CBP_52 | CBP_44
  | CBP_28 | CBP_40 | CBP_20 | CBP_48 | CBP_12 | CBP_63 | CBP_3 | CBP_36 | CBP_24 | CBP_34 | CBP_18 | CBP_10
  | CBP_6 | CBP_33 | CBP_17 | CBP_9 | CBP_5 | CBP_58 | CBP_54 | CBP_46 | CBP_30 | CBP_57 | CBP_53 | CBP_45
  | CBP_29 | CBP_38 | CBP_26 | CBP_37 | CBP_25 | CBP_43 | CBP_23 | CBP_51 | CBP_15 | CBP_42 | CBP_22 | CBP_50
  | CBP_14 | CBP_41 | CBP_21 | CBP_49 | CBP_13 | CBP_35 | CBP_19 | CBP_11 | CBP_7 | CBP_0 | CBP_39 | CBP_27
  | CBP_59 | CBP_55 | CBP_47 | CBP_31 => exact ⟨_, .of_beq hi (.cbp _ _), fun _ => rfl⟩
  | MV_0 | MV_1 | MV_2 | MV_3 | MV_4 | MV_7 | MV_6 | MV_5 | MV_10 | MV_9 | MV_8 | MV_16 | MV_15 | MV_14 | MV_13
  | MV_12 | MV_11 => exact ⟨_, .of_beq hi (.mv _ _), fun _ => rfl⟩
  | DCL_1 | DCL_2 | DCL_0 | DCL_3 | DCL_4 | DCL_5 | DCL_6 | DCL_7 | DCL_8 | DCL_9 | DCL_10 | DCL_11 =>
    exact ⟨_, .of_beq hi (.dcSize (.inl rfl) _ (by decide)), fun _ => rfl⟩
  | DCC_0 | DCC_1 | DCC_2 | DCC_3 | DCC_4 | DCC_5 | DCC_6 | DCC_7 | DCC_8 | DCC_9 | DCC_10 | DCC_11 =>
    exact ⟨_, .of_beq hi (.dcSize (.inr rfl) _ (by decide)), fun _ => rfl⟩
  | DCT0__0_1 => exact ⟨_, .of_beq hi (.coefficient (.inl rfl) _ _ _ _), fun _ => rfl⟩
  | DCT0_FIRST__0_1 => exact ⟨_, .of_beq hi (.coefficient (.inr (.inl rfl)) _ _ _ _), fun _ => rfl⟩
  | DCT1__0_1 | DCT1__1_1 | DCT1__0_2 | DCT1__0_3 | DCT1__2_1 | DCT1__1_2 | DCT1__3_1 | DCT1__0_4 | DCT1__0_5
  | DCT1__0_7 | DCT1__0_6 | DCT1__4_1 | DCT1__5_1 | DCT1__7_1 | DCT1__8_1 | DCT1__6_1 | DCT1__2_2 | DCT1__9_1
  | DCT1__1_3 | DCT1__10_1 | DCT1__0_8 | DCT1__0_9 | DCT1__1_5 | DCT1__11_1 | DCT1__0_11 | DCT1__0_10
  | DCT1__13_1 | DCT1__12_1 | DCT1__3_2 | DCT1__1_4 | DCT1__0_12 | DCT1__0_13 | DCT1__2_3 | DCT1__4_2
  | DCT1__0_14 | DCT1__0_15 | DCT1__5_2 | DCT1__14_1 | DCT1__15_1 | DCT1__2_4 | DCT1__16_1 | DCT1__8_2
  | DCT1__4_3 | DCT1__7_2 | DCT1__21_1 | DCT1__20_1 | DCT1__19_1 | DCT1__18_1 | DCT1__3_3 | DCT1__6_2
  | DCT1__17_1 | DCT1__10_2 | DCT1__9_2 | DCT1__5_3 | DCT1__3_4 | DCT1__2_5 | DCT1__1_7 | DCT1__1_6
  | DCT1__26_1 | DCT1__25_1 | DCT1__24_1 | DCT1__23_1 | DCT1__22_1 | DCT1__0_31 | DCT1__0_30 | DCT1__0_29
  | DCT1__0_28 | DCT1__0_27 | DCT1__0_26 | DCT1__0_25 | DCT1__0_24 | DCT1__0_23 | DCT1__0_22 | DCT1__0_21
  | DCT1__0_20 | DCT1__0_19 | DCT1__0_18 | DCT1__0_17 | DCT1__0_16 | DCT1__0_40 | DCT1__0_39 | DCT1__0_38
  | DCT1__0_37 | DCT1__0_36 | DCT1__0_35 | DCT1__0_34 | DCT1__0_33 | DCT1__0_32 | DCT1__1_14 | DCT1__1_13
  | DCT1__1_12 | DCT1__1_11 | DCT1__1_10 | DCT1__1_9 | DCT1__1_8 | DCT1__1_18 | DCT1__1_17 | DCT1__1_16
  | DCT1__1_15 | DCT1__6_3 | DCT1__16_2 | DCT1__15_2 | DCT1__14_2 | DCT1__13_2 | DCT1__12_2 | DCT1__11_2
  | DCT1__31_1 | DCT1__30_1 | DCT1__29_1 | DCT1__28_1 | DCT1__27_1 =>
    exact ⟨_, .of_beq hi (.coefficient (.inr (.inr rfl)) _ _ _ _), fun _ => rfl⟩
  | DCT0__1_1 | DCT0__0_2 | DCT0__2_1 | DCT0__0_3 | DCT0__4_1 | DCT0__3_1 | DCT0__7_1 | DCT0__6_1 | DCT0__1_2
  | DCT0__5_1 | DCT0__2_2 | DCT0__9_1 | DCT0__0_4 | DCT0__8_1 | DCT0__13_1 | DCT0__0_6 | DCT0__12_1
  | DCT0__11_1 | DCT0__3_2 | DCT0__1_3 | DCT0__0_5 | DCT0__10_1 | DCT0__16_1 | DCT0__5_2 | DCT0__0_7
  | DCT0__2_3 | DCT0__1_4 | DCT0__15_1 | DCT0__14_1 | DCT0__4_2 | DCT0__0_11 | DCT0__8_2 | DCT0__4_3
  | DCT0__0_10 | DCT0__2_4 | DCT0__7_2 | DCT0__21_1 | DCT0__20_1 | DCT0__0_9 | DCT0__19_1 | DCT0__18_1
  | DCT0__1_5 | DCT0__3_3 | DCT0__0_8 | DCT0__6_2 | DCT0__17_1 | DCT0__10_2 | DCT0__9_2 | DCT0__5_3 | DCT0__3_4
  | DCT0__2_5 | DCT0__1_7 | DCT0__1_6 | DCT0__0_15 | DCT0__0_14 | DCT0__0_13 | DCT0__0_12 | DCT0__26_1
  | DCT0__25_1 | DCT0__24_1 | DCT0__23_1 | DCT0__22_1 | DCT0__0_31 | DCT0__0_30 | DCT0__0_29 | DCT0__0_28
  | DCT0__0_27 | DCT0__0_26 | DCT0__0_25 | DCT0__0_24 | DCT0__0_23 | DCT0__0_22 | DCT0__0_21 | DCT0__0_20
  | DCT0__0_19 | DCT0__0_18 | DCT0__0_17 | DCT0__0_16 | DCT0__0_40 | DCT0__0_39 | DCT0__0_38 | DCT0__0_37
  | DCT0__0_36 | DCT0__0_35 | DCT0__0_34 | DCT0__0_33 | DCT0__0_32 | DCT0__1_14 | DCT0__1_13 | DCT0__1_12
  | DCT0__1_11 | DCT0__1_10 | DCT0__1_9 | DCT0__1_8 | DCT0__1_18 | DCT0__1_17 | DCT0__1_16 | DCT0__1_15
  | DCT0__6_3 | DCT0__16_2 | DCT0__15_2 | DCT0__14_2 | DCT0__13_2 | DCT0__12_2 | DCT0__11_2 | DCT0__31_1
  | DCT0__30_1 | DCT0__29_1 | DCT0__28_1 | DCT0__27_1 =>
    exact ⟨_, .coefficient (dct0_or_first hi) _ _ _ _, fun _ => rfl⟩
  | DCT0_ESC => exact ⟨_, .escape (dct0_or_first hi) _ _ _, fun _ => rfl⟩
  | DCT1_ESC => exact ⟨_, .of_beq hi (.escape (.inr (.inr rfl)) _ _ _), fun _ => rfl⟩
  | DCT0_EOB => exact ⟨_, .of_beq hi (.endOfBlock (.inl rfl) _), fun _ => rfl⟩
  | DCT1_EOB => exact ⟨_, .of_beq hi (.endOfBlock (.inr (.inr rfl)) _), fun _ => rfl⟩

-- ---------------------------------------------------------------- a step

/-- What a step can run: the idle core's step, the operation of the element due, the invalid code of a table, the operation
of the next start code, or what follows the last one. -/
inductive StepFlow (s : State) : Flow → Prop
  | host (h : s.ctx = .idle) : StepFlow s s.hostStep
  | element {c : DecCtx} {f : State → Flow} (hc : s.decCtx = some c) (hne : c ≠ .startCode) (hf : Runs c f) :
      StepFlow s (f s)
  | invalidCode {c : DecCtx} (hc : s.decCtx = some c) (ht : c.isTable = true) : StepFlow s (.corrupt .invalidVlc s)
  | startCode {m : ScanMode} (h : s.ctx = .startCode m) {p : Nat} (hp : s.NextPrefix p) (c : Byte) :
      StepFlow s (startCodeElem c (s.setBp p))
  | endOfBuffer {m : ScanMode} (h : s.ctx = .startCode m) (hn : s.NoPrefix) :
      StepFlow s ((s.setBp s.bufBits).endOfBuffer m)

end Sys2Proof.Machine
end

section
/-! PROOFS. A step runs one of the things listed in `StepFlow`. -/

namespace Sys2Proof.Machine

theorem decode_isSome_of_layout {c : DecCtx} (hc : c.isTable = false) (rd : Nat → Bool) (fuel : Nat) :
    (decode c rd fuel).isSome = true := by
  by_cases hdc : ∃ n, c = .dcDiff n
  · obtain ⟨n, rfl⟩ := hdc
    rfl
  · obtain ⟨i, hi, -⟩ := decode_layout_sound hc (fun n hn => absurd ⟨n, hn⟩ hdc) rd fuel
    exact Option.isSome_of_eq_some hi

theorem State.decCtx_eq_none {s : State} (h : s.decCtx = none) : s.ctx = .idle := by
  unfold State.decCtx at h
  split at h
  · assumption
  all_goals cases h

/-- Only the macroblock type table depends on more than the place: no place but a start code's reads a start code. -/
theorem State.decCtx_eq_startCode {s : State} : s.decCtx = some .startCode ↔ ∃ m, s.ctx = .startCode m := by
  constructor
  · intro h
    unfold State.decCtx State.typeTable State.dctTable at h
    split at h
    case h_2 m hm => exact ⟨m, hm⟩
    all_goals
      simp only [Option.some.injEq, reduceCtorEq] at h
      try split_ifs at h
  · rintro ⟨m, hm⟩
    rw [State.decCtx, hm]

theorem State.fetch_idle {s : State} (h : s.ctx = .idle) : s.fetch = .done s.hostStep := by
  rw [State.fetch, State.decCtx, h]

theorem State.fetch_startCode {s : State} {m : ScanMode} (h : s.ctx = .startCode m) :
    (∀ p, s.NextPrefix p → s.fetch = (s.setBp p).fetchElement .startCode) ∧
    (s.NoPrefix → s.fetch = .done ((s.setBp s.bufBits).endOfBuffer m)) := by
  constructor
  · intro p hp
    simp [State.fetch, State.decCtx_eq_startCode.2 ⟨m, h⟩, h, State.getStartCode_of_nextPrefix hp]
  · intro hn
    simp [State.fetch, State.decCtx_eq_startCode.2 ⟨m, h⟩, h, State.getStartCode_of_noPrefix hn]

theorem State.fetch_element {s : State} {c : DecCtx} (hc : s.decCtx = some c) (hne : c ≠ .startCode) :
    s.fetch = s.fetchElement c := by
  have hm : ∀ m, s.ctx ≠ .startCode m := fun m h => hne (Option.some.inj (hc ▸ State.decCtx_eq_startCode.2 ⟨m, h⟩))
  cases hx : s.ctx with
  | startCode m => exact absurd hx (hm m)
  | _ => simp only [State.fetch, hc, hx]

/-- An element read in a context runs an operation of the context. -/
theorem runs_of_fetchInstr {s : State} {c : DecCtx} {i : Instr} (h : s.fetchInstr c = some i) :
    ∃ f, Runs c f ∧ ∀ t, exec i t = (f t).finish :=
  exec_runs (inCtx_of_decode h)

/-- A step is the outcome of one of the flows a step can run. -/
theorem step_flow (s : State) : ∃ x, StepFlow s x ∧ step s = x.finish := by
  unfold step
  cases hc : s.decCtx with
  | none => exact ⟨_, .host (State.decCtx_eq_none hc), by rw [State.fetch_idle (State.decCtx_eq_none hc)]⟩
  | some c =>
    by_cases hsc : c = .startCode
    · subst hsc
      obtain ⟨m, hm⟩ := State.decCtx_eq_startCode.1 hc
      obtain hn | ⟨p, hp⟩ := s.noPrefix_or_nextPrefix
      · exact ⟨_, .endOfBuffer hm hn, by rw [(State.fetch_startCode hm).2 hn]⟩
      · obtain ⟨i, hi, -⟩ := decode_layout_sound (c := .startCode) rfl (fun n h => by cases h) (s.setBp p).fetchBits
          (s.setBp p).chainFuel
        obtain ⟨f, hf, he⟩ := runs_of_fetchInstr hi
        obtain ⟨b, rfl⟩ : ∃ b, f = startCodeElem b := by
          cases hf with
          | startCode b => exact ⟨b, rfl⟩
          | mbType h | dcSize h | coefficient h | escape h | endOfBlock h => simp at h
        refine ⟨_, .startCode hm hp b, ?_⟩
        rw [(State.fetch_startCode hm).1 p hp, State.fetchElement, State.fetchInstr, hi]
        exact he _
    · rw [State.fetch_element hc hsc, State.fetchElement]
      cases hi : s.fetchInstr c with
      | some i =>
        obtain ⟨f, hf, he⟩ := runs_of_fetchInstr hi
        exact ⟨_, .element hc hsc hf, he s⟩
      | none =>
        refine ⟨_, .invalidCode hc ?_, rfl⟩
        by_contra ht
        have := decode_isSome_of_layout (Bool.eq_false_iff.2 ht) s.fetchBits s.chainFuel
        rw [State.fetchInstr] at hi
        simp [hi] at this

end Sys2Proof.Machine
end

section
/-! PROOFS. The procedures of a macroblock keep the invariant: from a legal state in a macroblock each goes on to a legal
state at its place, or raises a Corrupt event within the picture, and none reads frame buffers that do not exist. -/

namespace Sys2Proof.Machine

-- ---------------------------------------------------------------- flows

/-- Where `x` goes on `P` holds, a Corrupt event is raised in a legal state in a picture, and a fault is not `unwritten`. -/
def Flow.SafeWith (P : State → Prop) : Flow → Prop
  | .go t => P t
  | .corrupt _ t => t.Legal ∧ t.inst.phase = .decodingSlices
  | .fault f => ∀ t, f ≠ .unwritten t
  | .refuse _ => True

/-- The flow of a step that keeps the invariant. -/
abbrev Flow.Safe (x : Flow) : Prop := x.SafeWith State.Inv

theorem Flow.SafeWith.bind {P Q : State → Prop} {x : Flow} {k : State → Flow} (hx : x.SafeWith P)
    (hk : ∀ t, P t → (k t).SafeWith Q) : (x.bind k).SafeWith Q := by
  cases x with
  | go t => exact hk t hx
  | corrupt c t => exact hx
  | fault f => exact hx
  | refuse r => exact hx

-- ---------------------------------------------------------------- states that are legal because another is

/-- The registers `Legal` speaks of, but for the motion registers. -/
def State.legalRegs (s : State) : Params × InstanceState × SequenceRegs × PictureRegs × List (List Int) × Nat :=
  (s.cfg, s.inst, s.seq, s.pic, s.mb.blk, s.slc.sliceRow)

/-- The motion registers. -/
def MacroblockRegs.modeRegs (m : MacroblockRegs) : MotionType × Nat × MvFormat × Bool :=
  (m.motionType, m.mvCount, m.mvFormat, m.mvScale)

/-- The registers `Legal` speaks of are as in a legal state, and the motion registers agree. -/
theorem State.Legal.of_modes {s t : State} (h : s.Legal) (he : t.legalRegs = s.legalRegs) (hmodes : t.mb.modesAgree) :
    t.Legal := by
  simp only [State.legalRegs, Prod.mk.injEq] at he
  obtain ⟨hcfg, hinst, hseq, hpic, hblk, hrow⟩ := he
  have hw : t.width = s.width := by rw [State.width, State.width, hseq]
  have hh : t.height = s.height := by rw [State.height, State.height, hseq]
  have hn : t.mbCount = s.mbCount := by rw [State.mbCount, State.mbCount, State.mbWidth, State.mbHeight, hw, hh]; rfl
  obtain ⟨memory, roles, ring, matrices, blocks, geometry, picture, -, row⟩ := h
  exact ⟨hinst ▸ memory, hinst ▸ roles, hinst ▸ hcfg ▸ ring, hseq ▸ matrices, hblk ▸ blocks,
    by rw [hinst, hw, hh, hn]; exact geometry, by rw [hinst, hpic]; exact picture, hmodes, hrow ▸ row⟩

/-- Everything `Legal` speaks of is as in a legal state. -/
theorem State.Legal.of_eq {s t : State} (h : s.Legal)
    (he : (t.legalRegs, t.mb.modeRegs) = (s.legalRegs, s.mb.modeRegs)) : t.Legal := by
  obtain ⟨hregs, hmodes⟩ := Prod.mk.injEq .. ▸ he
  refine h.of_modes hregs ?_
  simp only [MacroblockRegs.modeRegs, Prod.mk.injEq] at hmodes
  obtain ⟨htype, hcount, hformat, hscale⟩ := hmodes
  have := h.modes
  rwa [MacroblockRegs.modesAgree, htype, hcount, hformat, hscale]

/-- In a picture the blocks and the samples may change, in canonical form and of their sizes. -/
theorem State.Legal.of_blocks {s t : State} (h : s.Legal) (fb : Memory) (hwf : fb.wf) (blk : List (List Int))
    (hlen : blk.length = 6) (hall : ∀ b ∈ blk, b.length = 64)
    (ht : t = { s with inst := { s.inst with fb := fb }, mb := { s.mb with blk := blk } }) : t.Legal := by
  subst ht
  exact ⟨hwf, h.roles, h.ring, h.matrices, ⟨hlen, hall⟩, h.geometry, h.picture, h.modes, h.row⟩

theorem State.Legal.onBlk {s : State} (h : s.Legal) {blk : List (List Int)} (hlen : blk.length = 6)
    (hall : ∀ b ∈ blk, b.length = 64) : (s.onMb fun m => { m with blk := blk }).Legal :=
  h.of_blocks s.inst.fb h.memory blk hlen hall rfl

theorem zeroBlk_length : zeroBlk.length = 6 ∧ ∀ b ∈ zeroBlk, b.length = 64 := by decide

/-- Replacing block `i` by one of 64 keeps the sizes of the blocks. -/
theorem blk_set_length {blk : List (List Int)} (h : blk.length = 6 ∧ ∀ b ∈ blk, b.length = 64) (i : Fin 6) {b : List Int}
    (hb : b.length = 64) : (blk.set i.val b).length = 6 ∧ ∀ b' ∈ blk.set i.val b, b'.length = 64 := by
  refine ⟨by rw [List.length_set, h.1], fun b' hb' => ?_⟩
  obtain hm | rfl := List.mem_or_eq_of_mem_set hb'
  · exact h.2 b' hm
  · exact hb

theorem blk_getD_length {blk : List (List Int)} (h : blk.length = 6 ∧ ∀ b ∈ blk, b.length = 64) (i : Fin 6) :
    (blk.getD i.val []).length = 64 := by
  have hi : i.val < blk.length := by
    rw [h.1]
    exact i.isLt
  rw [List.getD_eq_getElem _ _ hi]
  exact h.2 _ (List.getElem_mem hi)

theorem idct_length (k : IdctKind) (b : List Int) : (idct k b).length = 64 := by
  cases k <;> simp [idct, refIdct, srcIdct]

theorem coefControlIso_length (b : List Int) : (coefControlIso b).length = b.length := by
  unfold coefControlIso
  dsimp only
  split <;> simp

theorem State.Legal.residuals_length {s : State} (h : s.Legal) :
    s.residuals.length = 6 ∧ ∀ b ∈ s.residuals, b.length = 64 := by
  refine ⟨s.residuals_length, fun b hb => ?_⟩
  obtain ⟨i, -, rfl⟩ := List.mem_map.1 hb
  dsimp only
  split
  · exact idct_length _ _
  · exact blk_getD_length h.blocks i

theorem MacroblockRegs.setModes_agree (m : MacroblockRegs) (t : MotionType) : (m.setModes t).modesAgree := by
  by_cases h : t = .field
  · subst h
    exact .inl ⟨rfl, rfl, rfl, rfl⟩
  · exact .inr ⟨h, by simp [MacroblockRegs.setModes, h], by simp [MacroblockRegs.setModes, h],
      by simp [MacroblockRegs.setModes, h]⟩

-- ---------------------------------------------------------------- the end of a macroblock

/-- In a picture the buffers have the current geometry. -/
theorem State.Legal.allocated {s : State} (h : s.Legal) (hp : s.inst.phase = .decodingSlices) :
    s.inst.allocated = some (s.width, s.height) := (h.geometry (.inr (.inl hp))).1

/-- Reconstruction of a macroblock on the grid changes samples and blocks alone, or reads a sample that has no value. -/
theorem State.Legal.reconstruct_safe {s : State} (h : s.Legal) (hs : s.inst.phase = .decodingSlices)
    (hm : s.slc.mba < s.mbCount) :
    s.reconstruct.SafeWith fun t => t.Legal ∧ ∃ fb blk,
      t = { s with inst := { s.inst with fb := fb }, mb := { s.mb with blk := blk } } := by
  obtain ⟨herr, hok⟩ := State.reconstruct_eq (State.reconReady_of_grid (h.allocated hs) hm)
  cases hp : s.prediction with
  | error e =>
    rw [herr e hp]
    intro t ht
    cases e <;> cases ht
  | ok p =>
    rw [hok p hp _ rfl _ rfl]
    exact ⟨h.of_blocks _ (Memory.wf_writeAll h.memory _) _ h.residuals_length.1 h.residuals_length.2 rfl, _, _, rfl⟩

/-- The resets at the end of a macroblock keep what the next one needs. -/
theorem State.Legal.afterResets {s : State} (h : s.Legal) (hm : s.inMacroblock) :
    s.afterResets.Legal ∧ s.afterResets.inSlice ∧ s.afterResets.slc.mba < s.afterResets.mbCount := by
  obtain ⟨⟨hphase, hquant, -⟩, hmba, htype⟩ := hm
  unfold State.afterResets
  dsimp only
  split
  · exact ⟨h.of_eq rfl, ⟨hphase, hquant, htype⟩, hmba⟩
  · split
    · exact ⟨h.of_modes rfl (.inr ⟨by simp, rfl, rfl, rfl⟩), ⟨hphase, hquant, htype⟩, hmba⟩
    · exact ⟨h.of_eq rfl, ⟨hphase, hquant, htype⟩, hmba⟩

theorem State.Legal.afterMacroblock {s : State} (h : s.Legal) (hs : s.inSlice) (hm : s.slc.mba < s.mbCount) :
    s.afterMacroblock.Inv := by
  unfold State.afterMacroblock
  split_ifs with hend hzero
  · exact ⟨h.of_eq rfl, hs.1⟩
  · exact ⟨h.of_eq rfl, hs.1⟩
  · refine ⟨h.of_eq rfl, hs, fun _ => ?_⟩
    change s.slc.mba + 1 < s.mbCount
    omega

theorem State.Legal.finishMacroblock {s : State} (h : s.Legal) (hm : s.inMacroblock) : s.finishMacroblock.Safe := by
  obtain ⟨hl, hs, hmba⟩ := h.afterResets hm
  rw [State.finishMacroblock, s.afterResets_eq]
  refine (hl.reconstruct_safe hs.1 hmba).bind fun t ht => ?_
  obtain ⟨htl, fb, blk, rfl⟩ := ht
  exact htl.afterMacroblock hs hmba

-- ---------------------------------------------------------------- blocks

theorem State.Legal.startBlock {s : State} (h : s.Legal) (hm : s.inMacroblock) (i : Fin 6) : (s.startBlock i).Inv := by
  unfold State.startBlock
  split
  · exact ⟨h.of_eq rfl, hm⟩
  · exact ⟨h.of_eq rfl, hm, by simp [State.setCtx], rfl⟩

theorem State.Legal.nextBlock {s : State} (h : s.Legal) (hm : s.inMacroblock) (n : Nat) : (s.nextBlock n).Safe := by
  unfold State.nextBlock
  split
  · exact h.startBlock hm _
  · exact h.finishMacroblock hm

theorem State.Legal.setPattern {s : State} (h : s.Legal) (hm : s.inMacroblock) (v : BitVec 6) : (s.setPattern v).Safe :=
  State.Legal.nextBlock (h.of_eq rfl : (s.onMb fun m => { m with cbp := v }).Legal) hm 0

theorem State.Legal.setCoef {s : State} (h : s.Legal) (i : Fin 6) (j : Nat) (v : Int) : (s.setCoef i j v).Legal := by
  obtain ⟨hlen, hall⟩ := blk_set_length h.blocks i (b := (s.mb.blk.getD i.val []).set j v)
    (by rw [List.length_set, blk_getD_length h.blocks])
  exact h.onBlk hlen hall

theorem State.Legal.putDc {s : State} (h : s.Legal) (hm : s.inMacroblock) (i : Fin 6) (diff : Int) :
    (s.putDc i diff).Inv := by
  have hl : (s.onSlc fun r => { r with dcPred := r.dcPred.set (blockPlane i) (s.slc.dcPred.get (blockPlane i) + diff) }).Legal :=
    h.of_eq rfl
  exact ⟨(hl.setCoef i 0 _).of_eq rfl, hm, show (0 : Int) ≤ 63 by omega, Int.le_refl 0⟩

theorem State.Legal.putCoef {s : State} (h : s.Legal) (hm : s.inMacroblock) (hidx : -1 ≤ s.mb.coefIdx) (i : Fin 6)
    (run : Nat) (level : Int) : (s.putCoef i run level).Safe := by
  have hl : (s.onMb fun m => { m with coefIdx := s.mb.coefIdx + run + 1 }).Legal := h.of_eq rfl
  unfold State.putCoef
  dsimp only
  split_ifs with h64
  · exact ⟨hl, hm.1.1⟩
  · refine ⟨(hl.setCoef i _ _).of_eq rfl, hm, ?_, ?_⟩
    · change s.mb.coefIdx + run + 1 ≤ 63
      omega
    · change 0 ≤ s.mb.coefIdx + run + 1
      omega

theorem State.Legal.coefControl {s : State} (h : s.Legal) (i : Fin 6) : (s.coefControl i).Legal := by
  unfold State.coefControl
  split
  · exact h
  · obtain ⟨hlen, hall⟩ := blk_set_length h.blocks i (b := coefControlIso (s.mb.blk.getD i.val []))
      (by rw [coefControlIso_length, blk_getD_length h.blocks])
    exact h.onBlk hlen hall

theorem State.inMacroblock.coefControl {s : State} (h : s.inMacroblock) (i : Fin 6) : (s.coefControl i).inMacroblock := by
  unfold State.coefControl
  split <;> exact h

-- ---------------------------------------------------------------- modes and vectors

theorem State.Legal.afterMarker {s : State} (h : s.Legal) (hm : s.inMacroblock) : s.afterMarker.Safe := by
  unfold State.afterMarker
  split
  · exact ⟨h.of_eq rfl, hm⟩
  · exact h.setPattern hm _

theorem State.Legal.afterVectors {s : State} (h : s.Legal) (hm : s.inMacroblock) : s.afterVectors.Safe := by
  unfold State.afterVectors
  split
  · exact ⟨h.of_eq rfl, hm⟩
  · exact h.afterMarker hm

theorem State.Legal.enterMotion {s : State} (h : s.Legal) (hm : s.inMacroblock) (r d t : Bool) :
    (s.enterMotion r d t).Safe := by
  unfold State.enterMotion
  split
  · exact ⟨h, hm.1.1⟩
  · exact ⟨h.of_eq rfl, hm⟩

theorem State.Legal.enterVectors {s : State} (h : s.Legal) (hm : s.inMacroblock) (d : Bool) : (s.enterVectors d).Safe := by
  unfold State.enterVectors
  split
  · exact h.enterMotion hm _ _ _
  · exact ⟨h.of_eq rfl, hm⟩

theorem State.Legal.backwardVectors {s : State} (h : s.Legal) (hm : s.inMacroblock) : s.backwardVectors.Safe := by
  unfold State.backwardVectors
  split
  · exact h.enterVectors hm _
  · exact h.afterVectors hm

theorem State.Legal.forwardVectors {s : State} (h : s.Legal) (hm : s.inMacroblock) : s.forwardVectors.Safe := by
  unfold State.forwardVectors
  split
  · exact h.enterVectors hm _
  · exact h.backwardVectors hm

theorem State.Legal.vectorsDone {s : State} (h : s.Legal) (hm : s.inMacroblock) (d : Bool) : (s.vectorsDone d).Safe := by
  unfold State.vectorsDone
  split
  · exact h.afterVectors hm
  · exact h.backwardVectors hm

theorem State.Legal.afterMotion {s : State} (h : s.Legal) (hm : s.inMacroblock) (r d t : Bool) :
    (s.afterMotion r d t).Safe := by
  unfold State.afterMotion
  split_ifs
  · exact h.enterMotion hm _ _ _
  · exact State.Legal.vectorsDone (h.of_eq rfl : (s.onSlc fun x => x.copyPmv d).Legal) hm d
  · exact ⟨h.of_eq rfl, hm⟩
  · exact h.vectorsDone hm d

/-- A motion code reads some bits and writes one vector component. -/
theorem State.motionCode_eq (s : State) (r d t : Bool) (m : Nat) :
    ∃ n v, s.motionCode r d t m = ((s.consume n).onSlc fun x => x.setPmv r d t v).afterMotion r d t := by
  unfold State.motionCode
  dsimp only
  by_cases h0 : m = 0
  · subst h0
    exact ⟨0, _, rfl⟩
  · simp only [h0, if_false, false_or]
    by_cases h1 : s.fCode d t - 1 = 0
    · simp only [h1, if_true]
      exact ⟨1, _, rfl⟩
    · simp only [h1, if_false]
      exact ⟨1 + (s.fCode d t - 1), _, by simp [State.getBits, State.consume, State.setBp, State.onCmd, Nat.add_assoc]; rfl⟩

theorem State.Legal.motionCode {s : State} (h : s.Legal) (hm : s.inMacroblock) (r d t : Bool) (m : Nat) :
    (s.motionCode r d t m).Safe := by
  obtain ⟨n, v, he⟩ := s.motionCode_eq r d t m
  rw [he]
  exact State.Legal.afterMotion (h.of_eq rfl : ((s.consume n).onSlc fun x => x.setPmv r d t v).Legal) hm r d t

theorem State.Legal.afterModes {s : State} (h : s.Legal) (hm : s.inMacroblock) : s.afterModes.Safe := by
  unfold State.afterModes
  split
  · exact ⟨h.of_eq rfl, hm⟩
  · exact h.forwardVectors hm

theorem State.Legal.setMotionType {s : State} (h : s.Legal) (hm : s.inMacroblock) (t : MotionType) :
    (s.setMotionType t).Safe := by
  have hl : (s.onMb fun m => m.setModes t).Legal := h.of_modes rfl (MacroblockRegs.setModes_agree _ _)
  unfold State.setMotionType
  dsimp only
  split
  · exact ⟨hl.of_eq rfl, hm⟩
  · exact hl.afterModes hm

theorem State.Legal.setType {s : State} (h : s.Legal) (hs : s.inSlice) (hmba : s.slc.mba < s.mbCount) {f : MbFlags}
    (hf : s.typeOk f) : (s.setType f).Safe := by
  have hl : (s.onMb fun m => { m with mbType := f }).Legal := h.of_eq rfl
  have hm : (s.onMb fun m => { m with mbType := f }).inMacroblock := ⟨hs, hmba, hf⟩
  unfold State.setType
  dsimp only
  split_ifs
  · exact hl.setMotionType hm _
  · exact ⟨hl.of_eq rfl, hm⟩
  · exact hl.setMotionType hm _
  · exact hl.setMotionType hm _

-- ---------------------------------------------------------------- the quantiser

/-- The quantiser of a code other than 0 (R340). -/
theorem qmap_bounds (ty : Bool) {q : BitVec 5} (hq : q ≠ 0) : 1 ≤ qmap ty q.toNat ∧ qmap ty q.toNat ≤ 112 := by
  revert ty q
  decide

theorem State.quantOk_setQuant (s : State) {q : BitVec 5} (hq : q ≠ 0) : (s.setQuant q).quantOk := ⟨hq, rfl, qmap_bounds _ hq⟩

-- ---------------------------------------------------------------- skipped macroblocks and addresses

theorem State.Legal.startMacroblock {s : State} (h : s.Legal) (hs : s.inSlice) (hm : s.slc.mba < s.mbCount) :
    s.startMacroblock.Inv :=
  ⟨(h.onBlk zeroBlk_length.1 zeroBlk_length.2).of_eq rfl, hs, hm⟩

theorem State.Legal.finishSkipped {s : State} (h : s.Legal) (hp : s.inst.phase = .decodingSlices) (hq : s.quantOk)
    (hm : s.slc.mba < s.mbCount) {f : MbFlags} (hf : s.typeOk f) :
    (s.finishSkipped f).SafeWith fun t => t.Legal ∧ t.inSlice ∧ t.slc = s.slc ∧ t.mbCount = s.mbCount := by
  have hl : (s.onMb fun m => { m with mbType := f }).keepType.Legal := h.of_eq rfl
  have := hl.reconstruct_safe hp hm
  unfold State.finishSkipped
  revert this
  cases (s.onMb fun m => { m with mbType := f }).keepType.reconstruct with
  | go t =>
    rintro ⟨htl, fb, blk, rfl⟩
    exact ⟨htl, ⟨hp, hq, hf⟩, rfl, rfl⟩
  | corrupt c t => exact id
  | fault f => exact id
  | refuse r => exact id

theorem State.Legal.skippedMacroblock {s : State} (h : s.Legal) (hs : s.inSlice) (hm : s.slc.mba < s.mbCount) :
    s.skippedMacroblock.SafeWith fun t =>
      t.Legal ∧ t.inSlice ∧ t.slc.mba = s.slc.mba ∧ t.mbCount = s.mbCount := by
  obtain ⟨hp, hq, ht⟩ := hs
  have h0 : (s.onMb fun m => { m with blk := zeroBlk, cbp := 0 }).Legal :=
    (h.onBlk zeroBlk_length.1 zeroBlk_length.2).of_eq rfl
  have h1 : ((s.onMb fun m => { m with blk := zeroBlk, cbp := 0 }).resetDcPred.onMb fun m => m.setModes .frame).Legal :=
    h0.of_modes rfl (MacroblockRegs.setModes_agree _ _)
  have weaken : ∀ {x : Flow} {u : State}, u.slc.mba = s.slc.mba → u.mbCount = s.mbCount →
      x.SafeWith (fun t => t.Legal ∧ t.inSlice ∧ t.slc = u.slc ∧ t.mbCount = u.mbCount) →
      x.SafeWith fun t => t.Legal ∧ t.inSlice ∧ t.slc.mba = s.slc.mba ∧ t.mbCount = s.mbCount := by
    intro x u hu hn hx
    cases x with
    | go t =>
      obtain ⟨a, b, c, d⟩ := hx
      exact ⟨a, b, by rw [c, hu], by rw [d, hn]⟩
    | corrupt | fault | refuse => exact hx
  unfold State.skippedMacroblock
  dsimp only
  split_ifs with hP hB hdir
  · refine weaken ?_ ?_ (State.Legal.finishSkipped
      (s := ((s.onMb fun m => { m with blk := zeroBlk, cbp := 0 }).resetDcPred.onMb fun m => m.setModes .frame).onSlc
        fun r => { r with pmv := zeroForwardPmv r.pmv }) (h1.of_eq rfl) hp hq hm (fun hb => by cases hb))
    · rfl
    · rfl
  · refine weaken ?_ ?_ (h1.finishSkipped hp hq hm fun _ => hB)
    · rfl
    · rfl
  · exact ⟨h1.of_eq rfl, hp⟩
  · exact ⟨h1, hp⟩

theorem State.Legal.skipRun {n : Nat} {s : State} (h : s.Legal) (hs : s.inSlice) (hm : s.slc.mba + n < s.mbCount) :
    (State.skipRun n s).SafeWith fun t =>
      t.Legal ∧ t.inSlice ∧ t.slc.mba = s.slc.mba + n ∧ t.mbCount = s.mbCount := by
  induction n generalizing s with
  | zero => exact ⟨h, hs, rfl, rfl⟩
  | succ n ih =>
    have hadv : s.advance.Legal := h.of_eq rfl
    have hlt : s.advance.slc.mba < s.advance.mbCount := by
      change s.slc.mba + 1 < s.mbCount
      omega
    refine (hadv.skippedMacroblock hs hlt).bind fun t ht => ?_
    obtain ⟨htl, hts, hmba, hn⟩ := ht
    have hmba' : t.slc.mba = s.slc.mba + 1 := hmba
    have hn' : t.mbCount = s.mbCount := hn
    have := ih htl hts (by omega)
    rw [hmba', hn', show s.slc.mba + 1 + n = s.slc.mba + (n + 1) by omega] at this
    exact this

theorem State.Legal.firstMacroblock {s : State} (h : s.Legal) (hs : s.inSlice) : s.firstMacroblock.Safe := by
  unfold State.firstMacroblock
  dsimp only
  split_ifs with hover
  · exact ⟨h, hs.1⟩
  · have hl : (s.onSlc fun r => { r with mba := s.slc.sliceRow * s.mbWidth + s.slc.mbaInc - 1, mbaInc := 0 }).Legal := h.of_eq rfl
    exact hl.startMacroblock hs (by push Not at hover; exact hover.2)

theorem State.Legal.nextMacroblocks {s : State} (h : s.Legal) (hs : s.inSlice) (hm : s.slc.mba + 1 < s.mbCount) :
    s.nextMacroblocks.Safe := by
  unfold State.nextMacroblocks
  split_ifs with hover
  · exact ⟨h, hs.1⟩
  · refine (h.skipRun hs (n := s.slc.mbaInc - 1) (by omega)).bind fun t ht => ?_
    obtain ⟨htl, hts, hmba, hn⟩ := ht
    have hl : t.advance.Legal := htl.of_eq rfl
    refine hl.startMacroblock hts ?_
    change t.slc.mba + 1 < t.mbCount
    omega

end Sys2Proof.Machine
end

section
/-! PROOFS. The invariant: start codes, headers and host commands keep it, and so does every step (O51, O52, O53). -/

namespace Sys2Proof.Machine

-- ---------------------------------------------------------------- legal states outside a picture

/-- What the frame buffers are once a sequence header has been read (R599). -/
def State.HasBuffers (s : State) : Prop := s.inst.allocated = some (s.width, s.height) ∧ 0 < s.mbCount

theorem State.Legal.setPhase {s : State} (h : s.Legal) {p : Phase} (hd : p ≠ .decodingSlices)
    (hg : p = .awaitPictureStart ∨ p = .pictureComplete → s.HasBuffers) : (s.setPhase p).Legal := by
  refine ⟨h.memory, h.roles, h.ring, h.matrices, h.blocks, fun hp => hg ?_, fun hp => absurd hp hd, h.modes, h.row⟩
  obtain hp | hp | hp := hp
  · exact .inl hp
  · exact absurd hp hd
  · exact .inr hp

theorem State.Legal.onPic {s : State} (h : s.Legal) (hp : s.inst.phase ≠ .decodingSlices) (f : PictureRegs → PictureRegs) :
    (s.onPic f).Legal :=
  ⟨h.memory, h.roles, h.ring, h.matrices, h.blocks, h.geometry, fun hd => absurd hd hp, h.modes, h.row⟩

theorem State.Legal.scan {s : State} (h : s.Legal) (m : ScanMode) : (s.scan m).Legal := h.of_eq rfl

theorem State.Legal.hasBuffers {s : State} (h : s.Legal) (hp : s.inst.phase = .awaitPictureStart) : s.HasBuffers :=
  h.geometry (.inl hp)

theorem State.Legal.startSlice {s : State} (h : s.Legal) {c : Byte} (hc : isSliceCode c = true) : (s.startSlice c).Legal := by
  refine ⟨h.memory, h.roles, h.ring, h.matrices, h.blocks, h.geometry, h.picture, h.modes, ?_⟩
  simp only [isSliceCode, Bool.and_eq_true, decide_eq_true_eq] at hc
  change c.toNat - 1 ≤ 174
  omega

theorem State.Legal.publish {s : State} (h : s.Legal) : s.publish.Legal := by
  obtain ⟨hlen, hwr⟩ := h.ring
  refine ⟨h.memory, h.roles, ⟨?_, Nat.mod_lt _ (Nat.lt_of_le_of_lt (Nat.zero_le _) hwr)⟩, h.matrices, h.blocks, h.geometry,
    h.picture, h.modes, h.row⟩
  rw [State.publish_inst, List.length_set]
  exact hlen

/-- The end of a picture (R597, R606). -/
theorem State.Legal.finishPicture {s : State} (h : s.Legal) (hb : s.HasBuffers) (atCode : Bool) :
    (s.finishPicture atCode).Inv :=
  ⟨(State.Legal.publish (h.setPhase (p := .pictureComplete) (by decide) fun _ => hb)).of_eq rfl, by simp [State.Placed, State.finishPicture]⟩

theorem State.Legal.sliceLoop {s : State} (h : s.Legal) (hp : s.inst.phase = .decodingSlices) (c : Byte) :
    (s.sliceLoop c).Inv := by
  unfold State.sliceLoop
  split
  · exact ⟨h.startSlice ‹_›, hp⟩
  · exact h.finishPicture (h.geometry (.inr (.inl hp))) true

/-- The top loop of `decode` (R592). -/
theorem State.Legal.topCode {s : State} (h : s.Legal)
    (hp : s.inst.phase = .awaitSequenceHeader ∨ s.inst.phase = .awaitPictureStart) (c : Byte) : (s.topCode c).Inv := by
  unfold State.topCode
  split_ifs with hskip hB3 h00 hB5 hB2 hB8 hB7 hslice
  · exact ⟨h.of_eq rfl, hp⟩
  · exact ⟨h.of_eq rfl, hp⟩
  all_goals have ha : s.inst.phase = .awaitPictureStart := hp.resolve_left fun hs => hskip ⟨hs, hB3⟩
  · exact ⟨h.of_eq rfl, ha⟩
  · exact ⟨h.of_eq rfl, .inl rfl, ha⟩
  · exact ⟨h.of_eq rfl, hp⟩
  · exact ⟨h.of_eq rfl, ha⟩
  · have hl : (s.log (.sequenceEnd (s.cmd.bp - 32))).Legal := h.of_eq rfl
    exact ⟨(hl.setPhase (p := .awaitSequenceHeader) (by decide) (by simp)).of_eq rfl, .inl rfl⟩
  · exact ⟨h.of_eq rfl, hp⟩
  · exact ⟨h.of_eq rfl, hp⟩

theorem State.Legal.awaitPicture {s : State} (h : s.Legal) (hb : s.HasBuffers) : (s.setPhase .awaitPictureStart).Legal :=
  h.setPhase (by decide) fun _ => hb

theorem State.Legal.skipLoop {s : State} (h : s.Legal) (hp : s.inst.phase = .awaitPictureStart) (c : Byte) :
    (s.skipLoop c).Inv := by
  unfold State.skipLoop
  split
  · exact ⟨h.of_eq rfl, hp⟩
  · exact (h.awaitPicture (h.hasBuffers hp)).topCode (.inr rfl) c

/-- A supported picture begins in a legal state (R601). -/
theorem State.Legal.startPicture {s : State} (h : s.Legal) (hp : s.inst.phase = .awaitPictureStart)
    (ht : s.pic.picture_coding_type = 1 ∨ s.pic.picture_coding_type = 2 ∨ s.pic.picture_coding_type = 3)
    (hs : s.pic.picture_structure = 3) : (s.startPicture.setPhase .decodingSlices).Legal := by
  obtain ⟨haux, hroles, -⟩ := h.roles
  have hg := h.hasBuffers hp
  unfold State.startPicture
  by_cases hanchor : s.pic.picture_coding_type = 1 ∨ s.pic.picture_coding_type = 2
  · simp only [hanchor, if_true]
    refine ⟨h.memory, ⟨haux, hroles.symm.imp And.symm And.symm, ?_⟩, h.ring, h.matrices, h.blocks, fun _ => hg, fun _ => ⟨ht, hs, ?_⟩, h.modes, h.row⟩
    · change s.inst.fwdIdx ≠ s.inst.bwdIdx
      obtain ⟨h0, h1⟩ | ⟨h0, h1⟩ := hroles <;> rw [h0, h1] <;> decide
    · have h3 : s.pic.picture_coding_type ≠ 3 := by
        obtain h | h := hanchor <;> rw [h] <;> decide
      exact (if_neg h3).symm
  · simp only [hanchor, if_false]
    have h3 : s.pic.picture_coding_type = 3 := by
      rw [← or_assoc] at ht
      exact ht.resolve_left hanchor
    refine ⟨h.memory, ⟨haux, hroles, ?_⟩, h.ring, h.matrices, h.blocks, fun _ => hg, fun _ => ⟨ht, hs, (if_pos h3).symm⟩,
      h.modes, h.row⟩
    change s.inst.auxIdx ≠ s.inst.fwdIdx
    obtain ⟨h0, -⟩ | ⟨h0, -⟩ := hroles <;> rw [haux, h0] <;> decide

theorem State.Legal.afterExtensions {s : State} (h : s.Legal) (hp : s.inst.phase = .awaitPictureStart) (c : Option Byte) :
    (s.afterExtensions c).Safe := by
  have h1 : ∀ s1, s1 = (if s.pic.pceSeen then s else s.noPceDefaults) → s1.Legal ∧ s1.inst.phase = .awaitPictureStart := by
    rintro s1 rfl
    split
    · exact ⟨h, hp⟩
    · exact ⟨h.onPic (by rw [hp]; decide) _, hp⟩
  unfold State.afterExtensions
  generalize hs1 : (if s.pic.pceSeen then s else s.noPceDefaults) = s1
  obtain ⟨hl, hp1⟩ := h1 s1 hs1.symm
  dsimp only
  split_ifs with ht hstruct
  · trivial
  · have hpic := hl.startPicture hp1 ht (not_not.1 hstruct)
    cases c with
    | some c => exact hpic.sliceLoop rfl c
    | none => exact hpic.finishPicture (hpic.geometry (.inr (.inl rfl))) false
  · have hlog : (s1.log (.skippedPicture s1.pic.picture_coding_type s1.cmd.bp)).Legal := hl.of_eq rfl
    cases c with
    | some c => exact hlog.skipLoop hp1 c
    | none =>
      refine ⟨(hlog.awaitPicture (hl.hasBuffers hp1)).of_eq rfl, ?_⟩
      simp [State.Placed]

-- ---------------------------------------------------------------- start codes and the end of the buffer

theorem State.Inv.startCodeElem {s : State} (h : s.Inv) (c : Byte) : (startCodeElem c s).Safe := by
  obtain ⟨hl, hplaced⟩ := h
  unfold Machine.startCodeElem
  split
  case h_2 => exact fun t ht => by cases ht
  case h_1 m hm =>
    rw [State.Placed, hm] at hplaced
    have hl1 : (s.consume 32).Legal := hl.of_eq rfl
    cases m with
    | top => exact hl1.topCode hplaced c
    | picExt =>
      dsimp only
      split_ifs
      · exact ⟨hl1.of_eq rfl, .inr rfl, hplaced⟩
      · exact ⟨hl1, by simp only [State.Placed, State.consume_ctx, hm]; exact hplaced⟩
      · exact hl1.afterExtensions hplaced _
    | slices => exact hl1.sliceLoop hplaced c
    | skipSlices => exact hl1.skipLoop hplaced c

theorem State.Inv.endOfBuffer {s : State} (h : s.Inv) {m : ScanMode} (hm : s.ctx = .startCode m) :
    (s.endOfBuffer m).Safe := by
  obtain ⟨hl, hplaced⟩ := h
  rw [State.Placed, hm] at hplaced
  cases m with
  | top =>
    refine ⟨hl.of_eq rfl, ?_⟩
    change s.inst.phase ≠ .decodingSlices
    obtain hp | hp := hplaced <;> rw [hp] <;> decide
  | picExt => exact hl.afterExtensions hplaced none
  | slices => exact hl.finishPicture (hl.geometry (.inr (.inl hplaced))) false
  | skipSlices => exact ⟨(hl.awaitPicture (hl.hasBuffers hplaced)).of_eq rfl, by simp [State.Placed]⟩

theorem State.Inv.setBp {s : State} (h : s.Inv) {m : ScanMode} (hm : s.ctx = .startCode m) (p : Nat) : (s.setBp p).Inv := by
  refine ⟨h.1.of_eq rfl, ?_⟩
  have hplaced := h.2
  rw [State.Placed, hm] at hplaced
  rw [State.Placed, State.setBp_ctx, hm]
  cases m <;> exact hplaced

-- ---------------------------------------------------------------- extensions and headers

theorem loadMatrix_length (old new : List Byte) : (loadMatrix old new).length = old.length := by
  unfold loadMatrix
  generalize List.range 64 = l
  induction l generalizing old with
  | nil => rfl
  | cons k l ih => rw [List.foldl_cons, ih, List.length_set]

theorem loadOptional_length (old : List Byte) (m : Option (List Byte)) : (loadOptional old m).length = old.length := by
  cases m with
  | none => rfl
  | some m => exact loadMatrix_length old m

theorem State.Placed.scan {s : State} {m : ScanMode} (hm : m = .top ∨ m = .picExt) (hp : s.inst.phase = .awaitPictureStart) :
    (s.scan m).Placed := by
  obtain rfl | rfl := hm
  · exact .inr hp
  · exact hp

theorem State.Inv.extensionSkipped {s : State} (h : s.Inv) (n : Nat) : (extensionSkipped n s).Safe := by
  obtain ⟨hl, hplaced⟩ := h
  unfold Machine.extensionSkipped
  split
  · rename_i m hm
    rw [State.Placed, hm] at hplaced
    exact ⟨hl.of_eq rfl, .scan hplaced.1 hplaced.2⟩
  · exact fun t ht => by cases ht

/-- The fields of an extension stand at least four bits into the buffer (R153). -/
theorem State.Inv.extensionRead {s : State} (h : s.Inv) {fields : ScanMode → Ctx}
    (hf : ∀ m, fields m = .seqExt m ∨ fields m = .quantMatrix m ∨ fields m = .picCodingExt m) :
    (extensionRead fields s).Safe := by
  obtain ⟨hl, hplaced⟩ := h
  unfold Machine.extensionRead
  split
  · rename_i m hm
    rw [State.Placed, hm] at hplaced
    refine ⟨hl.of_eq rfl, ?_⟩
    have hplace : (m = .top ∨ m = .picExt) ∧ s.inst.phase = .awaitPictureStart ∧ 4 ≤ s.cmd.bp + 4 :=
      ⟨hplaced.1, hplaced.2, by omega⟩
    obtain he | he | he := hf m <;> rw [he] <;> exact hplace
  · exact fun t ht => by cases ht

theorem State.Inv.quantMatrixId {s : State} (h : s.Inv) : (quantMatrixId s).Safe := by
  unfold Machine.quantMatrixId
  split
  · exact h.extensionRead fun m => .inr (.inl rfl)
  · exact h.extensionSkipped 3

theorem State.Inv.quantMatrixFields {s : State} (h : s.Inv) (a b c d : Option (List Byte)) :
    (quantMatrixFields a b c d s).Safe := by
  obtain ⟨hl, hplaced⟩ := h
  unfold Machine.quantMatrixFields
  split
  · rename_i m hm
    rw [State.Placed, hm] at hplaced
    obtain ⟨hscan, hp, -⟩ := hplaced
    refine ⟨⟨hl.memory, hl.roles, hl.ring, ⟨?_, ?_⟩, hl.blocks, hl.geometry, hl.picture, hl.modes, hl.row⟩, .scan hscan hp⟩
    · exact (loadOptional_length _ a).trans hl.matrices.1
    · exact (loadOptional_length _ b).trans hl.matrices.2
  · exact fun t ht => by cases ht

theorem State.Inv.sequenceExtensionFields {s : State} (h : s.Inv) (pl : BitVec 8) (prog : Bool) (cf hx vx : BitVec 2)
    (bx : BitVec 12) (vbvx : BitVec 8) (ld : Bool) (fn : BitVec 2) (fd : BitVec 5) :
    (sequenceExtensionFields pl prog cf hx vx bx vbvx ld fn fd s).Safe := by
  obtain ⟨hl, hplaced⟩ := h
  unfold Machine.sequenceExtensionFields
  split
  · rename_i m hm
    rw [State.Placed, hm] at hplaced
    obtain ⟨hscan, hp, -⟩ := hplaced
    dsimp only
    split_ifs
    · trivial
    · trivial
    · exact ⟨⟨hl.memory, hl.roles, hl.ring, hl.matrices, hl.blocks, hl.geometry, hl.picture, hl.modes, hl.row⟩,
        .scan hscan hp⟩
  · exact fun t ht => by cases ht

theorem State.Inv.pictureCodingExtensionFields {s : State} (h : s.Inv) (f00 f01 f10 f11 : BitVec 4) (dcp ps : BitVec 2)
    (tff fpfd cmv qst ivf alt rff c420 pf : Bool) (cd : Option CompositeDisplay) :
    (pictureCodingExtensionFields f00 f01 f10 f11 dcp ps tff fpfd cmv qst ivf alt rff c420 pf cd s).Safe := by
  obtain ⟨hl, hplaced⟩ := h
  unfold Machine.pictureCodingExtensionFields
  split
  · rename_i m hm
    rw [State.Placed, hm] at hplaced
    obtain ⟨hscan, hp, -⟩ := hplaced
    have hl1 : (s.consume (30 + compositeLen cd)).Legal := hl.of_eq rfl
    exact ⟨(hl1.onPic (by rw [State.consume_inst, hp]; decide) _).scan m, .scan hscan hp⟩
  · exact fun t ht => by cases ht

theorem State.Inv.pictureHeaderFields {s : State} (h : s.Inv) (len : Nat) (tr : BitVec 10) (ct : BitVec 3) (vd : BitVec 16)
    (fields : PictureRegs → PictureRegs) (extra : List Byte) : (pictureHeaderFields len tr ct vd fields extra s).Safe := by
  obtain ⟨hl, hplaced⟩ := h
  unfold Machine.pictureHeaderFields
  split
  · rename_i hm
    rw [State.Placed, hm] at hplaced
    have hl1 : (s.consume (len + chainLen extra)).Legal := hl.of_eq rfl
    exact ⟨(hl1.onPic (by rw [State.consume_inst, hplaced]; decide) _).scan .picExt, hplaced⟩
  · exact fun t ht => by cases ht

theorem State.Inv.gopFields {s : State} (h : s.Inv) : (gopFields s).Safe := by
  obtain ⟨hl, hplaced⟩ := h
  unfold Machine.gopFields
  split
  · rename_i hm
    rw [State.Placed, hm] at hplaced
    exact ⟨hl.of_eq rfl, .inr hplaced⟩
  · exact fun t ht => by cases ht

theorem State.Inv.sliceHeaderFields {s : State} (h : s.Inv) (q : BitVec 5) (rest : Nat) : (sliceHeaderFields q rest s).Safe := by
  obtain ⟨hl, hplaced⟩ := h
  unfold Machine.sliceHeaderFields
  split
  · rename_i hm
    rw [State.Placed, hm] at hplaced
    split_ifs with hq
    · exact ⟨hl.of_eq rfl, hplaced⟩
    · refine ⟨hl.of_eq rfl, ⟨hplaced, ?_, fun hb => by cases hb⟩, fun hb => by cases hb⟩
      exact (s.consume (5 + rest)).quantOk_setQuant hq
  · exact fun t ht => by cases ht

-- ---------------------------------------------------------------- the sequence header

theorem badGeometry_eq_false {hs vs : BitVec 12} (h : badGeometry hs vs = false) : hs ≠ 0 ∧ vs ≠ 0 := by
  simp only [badGeometry, Bool.or_eq_false_iff, beq_eq_false_iff_ne, ne_eq] at h
  exact h.1

theorem State.mbCount_pos {s : State} (hw : s.seq.horizontal_size_value ≠ 0) (hh : s.seq.vertical_size_value ≠ 0) :
    0 < s.mbCount := by
  have key : ∀ v : BitVec 12, v ≠ 0 → 0 < roundUp16 v.toNat / 16 := by
    intro v hv
    have : v.toNat ≠ 0 := fun h0 => hv (BitVec.eq_of_toNat_eq h0)
    unfold roundUp16
    omega
  exact Nat.mul_pos (key _ hw) (key _ hh)

/-- Legal but for the geometry of the frame buffers, which a sequence header is about to set (R303). -/
theorem State.Legal.sequenceFields {s : State} (h : s.Legal) (ar fr : BitVec 4) (br : BitVec 18) (vbv : BitVec 10) (cp : Bool)
    (intra nonIntra : Option (List Byte)) :
    (s.sequenceFields ar fr br vbv cp intra nonIntra).seq.intraQ.length = 64 ∧
    (s.sequenceFields ar fr br vbv cp intra nonIntra).seq.nonIntraQ.length = 64 := by
  unfold State.sequenceFields SequenceRegs.headerMatrices
  cases s.cfg.loadMatrices with
  | iso => exact ⟨loadOptional_length defaultIntra intra, loadOptional_length defaultNonIntra nonIntra⟩
  | ignore => exact h.matrices

/-- The allocation check leaves buffers of the current geometry, or a failed core (R599, R675). -/
theorem State.Legal.allocWith {s t : State} (h : s.Legal) (hcfg : t.cfg = s.cfg)
    (hinst : t.inst = s.inst) (hmb : t.mb = s.mb) (hslc : t.slc = s.slc)
    (hq : t.seq.intraQ.length = 64 ∧ t.seq.nonIntraQ.length = 64) (hn : 0 < t.mbCount) (ok : Bool) :
    (afterAlloc (t.allocWith ok)).Inv := by
  have hmemory : t.inst.fb.wf := by
    rw [hinst]
    exact h.memory
  have hroles := h.roles
  rw [← hinst] at hroles
  have hblocks : t.mb.blk.length = 6 ∧ ∀ b ∈ t.mb.blk, b.length = 64 := hmb ▸ h.blocks
  have hmodes : t.mb.modesAgree := hmb ▸ h.modes
  have hrow : t.slc.sliceRow ≤ 174 := hslc ▸ h.row
  have hring : t.inst.ring.length = t.cfg.ringN ∧ t.inst.wr < t.cfg.ringN := hinst ▸ hcfg ▸ h.ring
  unfold State.allocWith
  split_ifs with hsame hok
  · exact ⟨⟨hmemory, hroles, hring, hq, hblocks, fun _ => ⟨hsame, hn⟩, fun hd => (by cases hd), hmodes, hrow⟩, .inr rfl⟩
  · refine ⟨⟨List.Pairwise.nil, ⟨rfl, .inl ⟨rfl, rfl⟩, fun hd => ?_⟩, ⟨?_, hring.2⟩, hq, hblocks, fun _ => ⟨rfl, hn⟩,
      fun hd => (by cases hd), hmodes, hrow⟩, .inr rfl⟩
    · cases hd
    · exact (List.length_map _).trans hring.1
  · refine ⟨⟨hmemory, hroles, hring, hq, hblocks, ?_, fun hd => (by cases hd), hmodes, hrow⟩, fun hd => (by cases hd)⟩
    rintro (hd | hd | hd) <;> cases hd

theorem State.Inv.sequenceHeaderFields {s : State} (h : s.Inv) (hs vs : BitVec 12) (ar fr : BitVec 4) (br : BitVec 18)
    (vbv : BitVec 10) (cp : Bool) (intra nonIntra : Option (List Byte)) :
    (sequenceHeaderFields hs vs ar fr br vbv cp intra nonIntra s).Safe := by
  have hl := h.1
  unfold Machine.sequenceHeaderFields
  split
  · dsimp only
    split_ifs with hbad
    · trivial
    · obtain ⟨hw, hh⟩ := badGeometry_eq_false (Bool.eq_false_iff.2 hbad)
      change State.Inv (afterAlloc _)
      refine hl.allocWith ?_ ?_ ?_ ?_ ?_ ?_ _
      · rfl
      · rfl
      · rfl
      · rfl
      · exact hl.sequenceFields ar fr br vbv cp intra nonIntra
      · exact State.mbCount_pos hw hh
  · exact fun t ht => by cases ht

-- ---------------------------------------------------------------- the host's commands

/-- The reset values are legal in a ring of at least one slot (R710). -/
theorem State.resetWith_legal {cfg : Params} (h : 0 < cfg.ringN) : (State.resetWith cfg).Legal where
  memory := List.Pairwise.nil
  roles := ⟨rfl, .inl ⟨rfl, rfl⟩, fun h => by cases h⟩
  ring := ⟨List.length_replicate, h⟩
  matrices := ⟨rfl, rfl⟩
  blocks := zeroBlk_length
  geometry := by rintro (hp | hp | hp) <;> cases hp
  picture := fun hp => by cases hp
  modes := .inr ⟨fun h => (by cases h), rfl, rfl, rfl⟩
  row := Nat.zero_le _

theorem State.Inv.hostStep {s : State} (h : s.Inv) (hc : s.ctx = .idle) : s.hostStep.Safe := by
  obtain ⟨hl, hplaced⟩ := h
  have hp : s.inst.phase ≠ .decodingSlices := by rwa [State.Placed, hc] at hplaced
  have hring : 0 < s.cfg.ringN := Nat.lt_of_le_of_lt (Nat.zero_le _) hl.ring.2
  unfold State.hostStep
  cases s.inbox with
  | nil => exact ⟨hl, hplaced⟩
  | cons c rest =>
    cases c with
    | create => exact ⟨(State.resetWith_legal hring).of_eq rfl, fun hd => by cases hd⟩
    | decode buf pts =>
      have hl1 : ({ s with inbox := rest } : State).Legal := hl.of_eq rfl
      refine show State.Inv _ from ?_
      unfold State.startDecode
      dsimp only
      split_ifs with hf hpc
      · exact ⟨hl1.of_eq rfl, hp⟩
      · have hl2 := State.Legal.awaitPicture (s := ({ s with inbox := rest } : State).onCmd fun r =>
          { r with cmdNo := r.cmdNo + 1, pkt := buf, bp := 0, pts := pts, errLog := [] }) (hl1.of_eq rfl)
          (hl.geometry (.inr (.inr hpc)))
        exact ⟨hl2.of_eq rfl, .inr rfl⟩
      · refine ⟨hl1.of_eq rfl, ?_⟩
        change s.inst.phase = .awaitSequenceHeader ∨ s.inst.phase = .awaitPictureStart
        cases he : s.inst.phase with
        | awaitSequenceHeader => exact .inl rfl
        | awaitPictureStart => exact .inr rfl
        | decodingSlices => exact absurd he hp
        | pictureComplete => exact absurd he hpc
        | failed => exact absurd he hf
    | lookup q => exact ⟨hl.of_eq rfl, hp⟩
    | slotRead k =>
      dsimp only [State.runCommand]
      split
      · exact ⟨hl.of_eq rfl, hp⟩
      · trivial
    | slotSample k c x y =>
      dsimp only [State.runCommand]
      split
      · split
        · exact ⟨hl.of_eq rfl, hp⟩
        · trivial
      · trivial

-- ---------------------------------------------------------------- the elements of a slice

theorem State.Inv.mbaCode {s : State} (h : s.Inv) (len v : Nat) : (mbaCode len v s).Safe := by
  obtain ⟨hl, hplaced⟩ := h
  unfold Machine.mbaCode
  split
  · rename_i first hm
    rw [State.Placed, hm] at hplaced
    obtain ⟨hs, hnext⟩ := hplaced
    have hl1 : ((s.consume len).onSlc fun r => { r with mbaInc := r.mbaInc + v }).Legal := hl.of_eq rfl
    dsimp only
    split_ifs with hfirst
    · exact hl1.firstMacroblock hs
    · exact hl1.nextMacroblocks hs (hnext (Bool.eq_false_iff.2 hfirst))
  · exact fun t ht => by cases ht

theorem State.Inv.mbaEscape {s : State} (h : s.Inv) (len : Nat) : (mbaEscape len s).Safe := by
  obtain ⟨hl, hplaced⟩ := h
  unfold Machine.mbaEscape
  split
  · rename_i first hm
    rw [State.Placed, hm] at hplaced
    refine ⟨hl.of_eq rfl, ?_⟩
    rw [State.Placed, State.onSlc_ctx, State.consume_ctx, hm]
    exact hplaced
  · exact fun t ht => by cases ht

/-- A backward type is decoded in a B picture alone: its table is the one of B pictures (R246, R430). -/
theorem State.Legal.typeOk_of_table {s : State} (h : s.Legal) (hp : s.inst.phase = .decodingSlices) {f : MbFlags}
    (hb : f.b = true → s.typeTable = .mbTypeB) : s.typeOk f := by
  intro hf
  have ht := hb hf
  unfold State.typeTable at ht
  split_ifs at ht with h1 h2
  exact ((h.picture hp).1.resolve_left h1).resolve_left h2

theorem State.Inv.typeCode {s : State} (h : s.Inv) (len : Nat) {f : MbFlags}
    (hb : f.b = true → s.typeTable = .mbTypeB) : (typeCode len f s).Safe := by
  obtain ⟨hl, hplaced⟩ := h
  unfold Machine.typeCode
  split
  · rename_i hm
    rw [State.Placed, hm] at hplaced
    have hl1 : (s.consume len).Legal := hl.of_eq rfl
    exact hl1.setType hplaced.1 hplaced.2 (hl.typeOk_of_table hplaced.1.1 hb)
  · exact fun t ht => by cases ht

theorem State.Inv.motionTypeField {s : State} (h : s.Inv) (m : BitVec 2) : (motionTypeField m s).Safe := by
  obtain ⟨hl, hplaced⟩ := h
  unfold Machine.motionTypeField
  split
  · rename_i hm
    rw [State.Placed, hm] at hplaced
    have hl1 : (s.consume 2).Legal := hl.of_eq rfl
    dsimp only
    split_ifs
    · exact ⟨hl1, hplaced.1.1⟩
    · trivial
    · exact hl1.setMotionType hplaced _
    · exact hl1.setMotionType hplaced _
  · exact fun t ht => by cases ht

theorem State.Inv.dctTypeField {s : State} (h : s.Inv) (t : Bool) : (dctTypeField t s).Safe := by
  obtain ⟨hl, hplaced⟩ := h
  unfold Machine.dctTypeField
  split
  · rename_i hm
    rw [State.Placed, hm] at hplaced
    exact State.Legal.afterModes (hl.of_eq rfl : ((s.consume 1).onMb fun m => { m with dctType := t }).Legal) hplaced
  · exact fun t ht => by cases ht

theorem State.Inv.mbQuantField {s : State} (h : s.Inv) (q : BitVec 5) : (mbQuantField q s).Safe := by
  obtain ⟨hl, hplaced⟩ := h
  unfold Machine.mbQuantField
  split
  · rename_i hm
    rw [State.Placed, hm] at hplaced
    obtain ⟨⟨hp, -, htype⟩, hmb⟩ := hplaced
    dsimp only
    split_ifs with hq
    · exact ⟨hl.of_eq rfl, hp⟩
    · exact State.Legal.forwardVectors (hl.of_eq rfl : ((s.consume 5).setQuant q).Legal)
        ⟨⟨hp, (s.consume 5).quantOk_setQuant hq, htype⟩, hmb⟩
  · exact fun t ht => by cases ht

theorem State.Inv.fieldSelectField {s : State} (h : s.Inv) (f : Bool) : (fieldSelectField f s).Safe := by
  obtain ⟨hl, hplaced⟩ := h
  unfold Machine.fieldSelectField
  split
  · rename_i r d hm
    rw [State.Placed, hm] at hplaced
    exact State.Legal.enterMotion (hl.of_eq rfl : ((s.consume 1).onSlc fun x => x.setMvfs r d f).Legal) hplaced r d false
  · exact fun t ht => by cases ht

theorem State.Inv.mvCode {s : State} (h : s.Inv) (len m : Nat) : (mvCode len m s).Safe := by
  obtain ⟨hl, hplaced⟩ := h
  unfold Machine.mvCode
  split
  · rename_i r d t hm
    rw [State.Placed, hm] at hplaced
    exact State.Legal.motionCode (hl.of_eq rfl : (s.consume len).Legal) hplaced r d t m
  · exact fun t ht => by cases ht

theorem State.Inv.markerField {s : State} (h : s.Inv) : (markerField s).Safe := by
  obtain ⟨hl, hplaced⟩ := h
  unfold Machine.markerField
  split
  · rename_i hm
    rw [State.Placed, hm] at hplaced
    exact State.Legal.afterMarker (hl.of_eq rfl : (s.consume 1).Legal) hplaced
  · exact fun t ht => by cases ht

theorem State.Inv.cbpCode {s : State} (h : s.Inv) (len : Nat) (v : BitVec 6) : (cbpCode len v s).Safe := by
  obtain ⟨hl, hplaced⟩ := h
  unfold Machine.cbpCode
  split
  · rename_i hm
    rw [State.Placed, hm] at hplaced
    exact State.Legal.setPattern (hl.of_eq rfl : (s.consume len).Legal) hplaced v
  · exact fun t ht => by cases ht

theorem State.Inv.dcSizeCode {s : State} (h : s.Inv) (len : Nat) {size : Nat} (hsize : size ≤ 11) :
    (dcSizeCode len size s).Safe := by
  obtain ⟨hl, hplaced⟩ := h
  unfold Machine.dcSizeCode
  split
  · rename_i i hm
    rw [State.Placed, hm] at hplaced
    have hl1 : (s.consume len).Legal := hl.of_eq rfl
    dsimp only
    split_ifs with h0
    · exact hl1.putDc hplaced i 0
    · exact ⟨hl1.of_eq rfl, hplaced, by omega, hsize⟩
  · exact fun t ht => by cases ht

theorem State.Inv.dcDiffField {s : State} (h : s.Inv) (size v : Nat) : (dcDiffField size v s).Safe := by
  obtain ⟨hl, hplaced⟩ := h
  unfold Machine.dcDiffField
  split
  · rename_i i n hm
    rw [State.Placed, hm] at hplaced
    split_ifs
    · exact State.Legal.putDc (hl.of_eq rfl : (s.consume size).Legal) hplaced.1 i _
    · exact fun t ht => by cases ht
  · exact fun t ht => by cases ht

/-- Where a coefficient is due, coefficients are safe: the index is -1 or more (R374). -/
theorem State.Inv.coef {s : State} (h : s.Inv) {i : Fin 6} {first : Bool} (hm : s.ctx = .coef i first) :
    s.inMacroblock ∧ -1 ≤ s.mb.coefIdx := by
  obtain ⟨-, hplaced⟩ := h
  rw [State.Placed, hm] at hplaced
  obtain ⟨hmb, -, hidx⟩ := hplaced
  refine ⟨hmb, ?_⟩
  split at hidx <;> omega

theorem State.Inv.coefCode {s : State} (h : s.Inv) (len run level : Nat) (sign : Bool) :
    (coefCode len run level sign s).Safe := by
  unfold Machine.coefCode
  split
  · rename_i i first hm
    obtain ⟨hmb, hidx⟩ := h.coef hm
    exact State.Legal.putCoef (h.1.of_eq rfl : (s.consume (len + 1)).Legal) hmb hidx i run _
  · exact fun t ht => by cases ht

theorem State.Inv.escapeCode {s : State} (h : s.Inv) (len : Nat) (run : BitVec 6) (level : BitVec 12) :
    (escapeCode len run level s).Safe := by
  unfold Machine.escapeCode
  split
  · rename_i i first hm
    obtain ⟨hmb, hidx⟩ := h.coef hm
    have hl1 : (s.consume (len + 18)).Legal := h.1.of_eq rfl
    dsimp only
    split_ifs
    · exact ⟨hl1, hmb.1.1⟩
    · exact hl1.putCoef hmb hidx i _ _
  · exact fun t ht => by cases ht

theorem State.Inv.endOfBlock {s : State} (h : s.Inv) (len : Nat) : (endOfBlock len s).Safe := by
  unfold Machine.endOfBlock
  split
  · rename_i i first hm
    have hl1 : (s.consume len).Legal := h.1.of_eq rfl
    have hmb : (s.consume len).inMacroblock := (h.coef hm).1
    exact (hl1.coefControl i).nextBlock (hmb.coefControl i) _
  · exact fun t ht => by cases ht

-- ---------------------------------------------------------------- every step

/-- The type table is due only at a macroblock type. -/
theorem State.typeTable_of_decCtx {s : State} (h : s.decCtx = some .mbTypeB) : s.typeTable = .mbTypeB := by
  unfold State.decCtx State.dctTable at h
  split at h <;> simp only [Option.some.injEq, reduceCtorEq] at h
  · exact h
  all_goals split_ifs at h

theorem Runs.safe {c : DecCtx} {f : State → Flow} (hf : Runs c f) {s : State} (h : s.Inv) (hc : s.decCtx = some c) :
    (f s).Safe := by
  cases hf with
  | startCode c => exact h.startCodeElem c
  | extensionSkipped n => exact h.extensionSkipped n
  | sequenceExtensionId => exact h.extensionRead fun m => .inl rfl
  | pictureCodingExtensionId => exact h.extensionRead fun m => .inr (.inr rfl)
  | quantMatrixId => exact h.quantMatrixId
  | sequenceHeader => exact h.sequenceHeaderFields ..
  | sequenceExtension => exact h.sequenceExtensionFields ..
  | quantMatrix => exact h.quantMatrixFields ..
  | pictureCodingExtension => exact h.pictureCodingExtensionFields ..
  | gop => exact h.gopFields
  | pictureHeader => exact h.pictureHeaderFields ..
  | sliceHeader => exact h.sliceHeaderFields ..
  | frameMotionType => exact h.motionTypeField _
  | dctType => exact h.dctTypeField _
  | mbQuant => exact h.mbQuantField _
  | fieldSelect => exact h.fieldSelectField _
  | marker => exact h.markerField
  | dcDifferential => exact h.dcDiffField _ _
  | mba len v => exact h.mbaCode len v
  | mbaEscape len => exact h.mbaEscape len
  | mbType hc' len hb => exact h.typeCode len fun hfb => State.typeTable_of_decCtx (hb hfb ▸ hc)
  | cbp len v => exact h.cbpCode len v
  | mv len m => exact h.mvCode len m
  | dcSize hc' len hsize => exact h.dcSizeCode len hsize
  | coefficient hc' len run level sign => exact h.coefCode len run level sign
  | escape hc' len run level => exact h.escapeCode len run level
  | endOfBlock hc' len => exact h.endOfBlock len

/-- A table is due only inside a slice. -/
theorem State.ctx_inSlice_of_table {s : State} {c : DecCtx} (hc : s.decCtx = some c) (ht : c.isTable = true) :
    s.ctx.inSlice = true := by
  cases hx : s.ctx with
  | idle =>
    rw [State.decCtx, hx] at hc
    cases hc
  | startCode | extId | seqExt | quantMatrix | picCodingExt | seqHeader | gop | picHeader =>
    simp only [State.decCtx, hx, Option.some.injEq] at hc
    subst hc
    cases ht
  | _ => rfl

/-- Inside a slice the picture is being decoded. -/
theorem State.Placed.phase_of_inSlice {s : State} (h : s.Placed) (hc : s.ctx.inSlice = true) :
    s.inst.phase = .decodingSlices := by
  unfold State.Placed at h
  cases hx : s.ctx with
  | idle | startCode | extId | seqExt | quantMatrix | picCodingExt | seqHeader | gop | picHeader =>
    rw [hx] at hc
    cases hc
  | sliceHeader =>
    rw [hx] at h
    exact h
  | mba | mbType | frameMotionType | dctType | mbQuant | fieldSelect | motionCode | marker | cbp | dcSize =>
    rw [hx] at h
    exact h.1.1
  | dcDiff | coef =>
    rw [hx] at h
    exact h.1.1.1

theorem StepFlow.safe {s : State} (h : s.Inv) {x : Flow} (hx : StepFlow s x) : x.Safe := by
  cases hx with
  | host hc => exact h.hostStep hc
  | element hc _ hf => exact hf.safe h hc
  | invalidCode hc ht => exact ⟨h.1, h.2.phase_of_inSlice (State.ctx_inSlice_of_table hc ht)⟩
  | startCode hm _ c => exact (h.setBp hm _).startCodeElem c
  | endOfBuffer hm _ => exact (h.setBp hm _).endOfBuffer hm

theorem Flow.Safe.inv {x : Flow} (hx : x.Safe) {t : State} (h : x.finish = .next t) : t.Inv := by
  obtain rfl | ⟨c, s, rfl, rfl⟩ := Flow.finish_eq_next h
  · exact hx
  · obtain ⟨hl, hp⟩ := hx
    obtain ⟨p, he⟩ := takeCorrupt_eq c s
    rw [he]
    exact ⟨hl.of_eq rfl, hp⟩

/-- Settles O51: the reset values satisfy the invariant, in a ring of four slots. -/
theorem resetIsLegal : Obligations.ResetIsLegal :=
  ⟨State.resetWith_legal (cfg := Params.default) (by decide), fun h => by cases h⟩

/-- Settles O52: what a step runs is safe from a legal state, and a safe flow ends in one. -/
theorem stepKeepsInvariant : Obligations.StepKeepsInvariant := by
  intro s t h hstep
  obtain ⟨x, hx, he⟩ := step_flow s
  exact Flow.Safe.inv (hx.safe h) (he ▸ hstep)

/-- Settles O53: no safe flow is the fault `unwritten`. -/
theorem neverUnwritten : Obligations.NeverUnwritten := by
  intro s t h hstep
  obtain ⟨x, hx, he⟩ := step_flow s
  have hsafe := hx.safe h
  rw [he] at hstep
  cases x with
  | fault f =>
    cases hstep
    exact hsafe t rfl
  | go | corrupt | refuse => cases hstep

end Sys2Proof.Machine
end

section
/-! PROOFS. What the elements of a macroblock and the address increments leave unchanged, whichever way they end. -/

namespace Sys2Proof.Machine

-- ---------------------------------------------------------------- how a flow ends

/-- A flow goes on to a state with `P`, raises a Corrupt event in one with `C`, or stops with a reason of the spec, which
leaves a state with `Q`. -/
def Flow.Ends (P C Q : State → Prop) : Flow → Prop
  | .go t => P t
  | .corrupt _ t => C t
  | .fault f => ∃ t, leftByFault f = some t ∧ Q t
  | .refuse r => ∃ t, leftByRefusal r = some t ∧ Q t

/-- The state a flow ends with has `P`, however it ends. -/
abbrev Flow.Leaves (P : State → Prop) (x : Flow) : Prop := x.Ends P P P

theorem Flow.Ends.mono {P C Q P' C' Q' : State → Prop} {x : Flow} (h : x.Ends P C Q) (hp : ∀ t, P t → P' t)
    (hc : ∀ t, C t → C' t) (hq : ∀ t, Q t → Q' t) : x.Ends P' C' Q' := by
  cases x with
  | go t => exact hp t h
  | corrupt c t => exact hc t h
  | fault f =>
    obtain ⟨t, hf, ht⟩ := h
    exact ⟨t, hf, hq t ht⟩
  | refuse r =>
    obtain ⟨t, hr, ht⟩ := h
    exact ⟨t, hr, hq t ht⟩

theorem Flow.Leaves.imp {P P' : State → Prop} {x : Flow} (h : x.Leaves P) (hp : ∀ t, P t → P' t) : x.Leaves P' :=
  Flow.Ends.mono h hp hp hp

theorem Flow.Ends.bind {P C Q R : State → Prop} {x : Flow} {k : State → Flow} (hx : x.Ends R C Q)
    (hk : ∀ t, R t → (k t).Ends P C Q) : (x.bind k).Ends P C Q := by
  cases x with
  | go t => exact hk t hx
  | corrupt c t => exact hx
  | fault f => exact hx
  | refuse r => exact hx

-- ---------------------------------------------------------------- what a slice's elements keep

/-- From `s` to `t`, by an element read in context `c`, change only the place, the cursor, which does not go back, slice
registers but the quantiser, the field selects (each but in its own field) and the row, macroblock registers, and the samples
of macroblocks at addresses in `A` of the current buffer, none of which becomes unwritten. -/
structure State.Keeps (c : DecCtx) (A : Nat → Prop) (s t : State) : Prop where
  cfg : t.cfg = s.cfg
  seq : t.seq = s.seq
  pic : t.pic = s.pic
  inbox : t.inbox = s.inbox
  outbox : t.outbox = s.outbox
  inst : { t.inst with fb := s.inst.fb } = s.inst
  cmd : { t.cmd with bp := s.cmd.bp } = s.cmd
  bp : s.cmd.bp ≤ t.cmd.bp
  row : t.slc.sliceRow = s.slc.sliceRow
  quant : c ≠ .mbQuant → t.slc.quantiser_scale_code = s.slc.quantiser_scale_code ∧
    t.slc.quantiserScale = s.slc.quantiserScale
  mvfs : c ≠ .fieldSelect → t.slc.mvfs = s.slc.mvfs
  samples : ∀ n, (∀ a, A a → s.OutsideMb s.inst.curIdx a n) → t.inst.fb.read n = s.inst.fb.read n
  written : ∀ n, (s.inst.fb.read n).isSome → (t.inst.fb.read n).isSome

section
variable {c : DecCtx} {A : Nat → Prop} {s t u : State}

/-- The registers every element of a slice keeps, but for the quantiser, the field selects and the cursor. -/
def State.keptRegs (s : State) :
    Params × SequenceRegs × PictureRegs × List Command × List Reply × InstanceState × CommandState × Nat :=
  (s.cfg, s.seq, s.pic, s.inbox, s.outbox, s.inst, { s.cmd with bp := 0 }, s.slc.sliceRow)

/-- The quantiser registers and the field selects. -/
def SliceRegs.keptFields (r : SliceRegs) : BitVec 5 × Nat × Pair (Pair Bool) :=
  (r.quantiser_scale_code, r.quantiserScale, r.mvfs)

/-- The registers `Keeps` speaks of are equal, and the samples are the same. -/
theorem State.Keeps.of_regs (he : t.keptRegs = s.keptRegs) (hbp : s.cmd.bp ≤ t.cmd.bp)
    (hquant : c ≠ .mbQuant → t.slc.quantiser_scale_code = s.slc.quantiser_scale_code ∧
      t.slc.quantiserScale = s.slc.quantiserScale)
    (hmvfs : c ≠ .fieldSelect → t.slc.mvfs = s.slc.mvfs) : s.Keeps c A t := by
  simp only [State.keptRegs, Prod.mk.injEq] at he
  obtain ⟨hcfg, hseq, hpic, hinbox, houtbox, hinst, hcmd, hrow⟩ := he
  refine ⟨hcfg, hseq, hpic, hinbox, houtbox, by rw [hinst], ?_, hbp, hrow, hquant, hmvfs, fun n _ => by rw [hinst],
    fun n hn => by rw [hinst]; exact hn⟩
  have := congrArg (fun r : CommandState => { r with bp := s.cmd.bp }) hcmd
  exact this

theorem State.Keeps.of_eq (he : (t.keptRegs, t.slc.keptFields) = (s.keptRegs, s.slc.keptFields))
    (hbp : s.cmd.bp ≤ t.cmd.bp) : s.Keeps c A t := by
  obtain ⟨hregs, hfields⟩ := Prod.mk.injEq .. ▸ he
  simp only [SliceRegs.keptFields, Prod.mk.injEq] at hfields
  obtain ⟨hcode, hscale, hmvfs⟩ := hfields
  exact .of_regs hregs hbp (fun _ => ⟨hcode, hscale⟩) fun _ => hmvfs

theorem State.Keeps.allocated (h : s.Keeps c A t) : t.inst.allocated = s.inst.allocated := by
  have := congrArg InstanceState.allocated h.inst
  exact this

theorem State.Keeps.curIdx (h : s.Keeps c A t) : t.inst.curIdx = s.inst.curIdx := by
  have := congrArg InstanceState.curIdx h.inst
  exact this

theorem State.mbAddr_congr (hseq : t.seq = s.seq) (ha : t.inst.allocated = s.inst.allocated) (b : Fin 3) (a : Nat)
    (p : Plane) (row col : Nat) : t.mbAddr b a p row col = s.mbAddr b a p row col := by
  unfold State.mbAddr State.mbPos State.addr State.planeWidth State.mbWidth State.width
  rw [hseq, ha]

theorem State.Keeps.outsideMb (h : s.Keeps c A t) (a n : Nat) :
    t.OutsideMb t.inst.curIdx a n ↔ s.OutsideMb s.inst.curIdx a n := by
  unfold State.OutsideMb
  simp only [h.curIdx, State.mbAddr_congr h.seq h.allocated]

theorem State.Keeps.refl (s : State) : s.Keeps c A s := .of_eq rfl (Nat.le_refl _)

theorem State.Keeps.trans (h : s.Keeps c A t) (k : t.Keeps c A u) : s.Keeps c A u where
  cfg := k.cfg.trans h.cfg
  seq := k.seq.trans h.seq
  pic := k.pic.trans h.pic
  inbox := k.inbox.trans h.inbox
  outbox := k.outbox.trans h.outbox
  inst := by
    have := h.inst
    rw [← k.inst] at this
    exact this
  cmd := by
    have := h.cmd
    rw [← k.cmd] at this
    exact this
  bp := h.bp.trans k.bp
  row := k.row.trans h.row
  quant := fun hc => ⟨(k.quant hc).1.trans (h.quant hc).1, (k.quant hc).2.trans (h.quant hc).2⟩
  mvfs := fun hc => (k.mvfs hc).trans (h.mvfs hc)
  samples := fun n hn => (k.samples n fun a ha => (h.outsideMb a n).2 (hn a ha)).trans (h.samples n hn)
  written := fun n hn => k.written n (h.written n hn)

theorem State.Keeps.mono {B : Nat → Prop} (h : s.Keeps c A t) (hAB : ∀ a, A a → B a) : s.Keeps c B t :=
  { h with samples := fun n hn => h.samples n fun a ha => hn a (hAB a ha) }

-- ---------------------------------------------------------------- the elements of one macroblock

/-- What the elements of the macroblock at `mba` keep. -/
structure State.MbKeeps (c : DecCtx) (s t : State) : Prop extends State.Keeps c (· = s.slc.mba) s t where
  mba : t.slc.mba = s.slc.mba

theorem State.MbKeeps.trans (h : s.MbKeeps c t) (k : t.MbKeeps c u) : s.MbKeeps c u :=
  ⟨h.toKeeps.trans (h.mba ▸ k.toKeeps), k.mba.trans h.mba⟩

/-- A procedure run after changes that `MbKeeps` allows. -/
theorem Flow.Leaves.after {x : Flow} (h : x.Leaves (t.MbKeeps c)) (hst : s.MbKeeps c t) : x.Leaves (s.MbKeeps c) :=
  h.imp fun _ => hst.trans

end

section
variable {c : DecCtx} (s : State)

theorem State.reconstruct_leaves : s.reconstruct.Leaves fun t => s.MbKeeps c t ∧ t.slc = s.slc := by
  cases h : s.reconstruct with
  | go t =>
    obtain ⟨p, cells, res, -, -, -, rfl, hout⟩ := State.reconstruct_go h
    exact ⟨⟨⟨rfl, rfl, rfl, rfl, rfl, rfl, rfl, Nat.le_refl _, rfl, fun _ => ⟨rfl, rfl⟩, fun _ => rfl,
      fun n hn => hout n (hn _ rfl), fun n hn => Memory.read_writeAll_isSome hn⟩, rfl⟩, rfl⟩
  | corrupt c t => exact absurd h (s.reconstruct_ne_corrupt c t)
  | fault f =>
    obtain ⟨e, -, rfl⟩ | ⟨-, rfl⟩ := State.reconstruct_fault h
    · cases e <;> exact ⟨s, rfl, ⟨.refl s, rfl⟩, rfl⟩
    · exact ⟨s, rfl, ⟨.refl s, rfl⟩, rfl⟩
  | refuse r =>
    unfold State.reconstruct at h
    split at h
    · split at h <;> cases h
    · cases h

theorem State.afterResets_keeps : s.MbKeeps c s.afterResets := by
  unfold State.afterResets
  dsimp only
  split
  · exact ⟨.of_eq rfl (Nat.le_refl _), rfl⟩
  · split <;> exact ⟨.of_eq rfl (Nat.le_refl _), rfl⟩

theorem State.afterMacroblock_keeps : s.MbKeeps c s.afterMacroblock := by
  rw [State.afterMacroblock_eq]
  exact ⟨.of_eq rfl (Nat.le_refl _), rfl⟩

theorem State.finishMacroblock_leaves : s.finishMacroblock.Leaves (s.MbKeeps c) := by
  rw [State.finishMacroblock, s.afterResets_eq]
  refine Flow.Leaves.after ?_ s.afterResets_keeps
  exact s.afterResets.reconstruct_leaves.imp (fun _ h => h.1) |>.bind fun t ht =>
    ht.trans t.afterMacroblock_keeps

theorem State.nextBlock_leaves (n : Nat) : (s.nextBlock n).Leaves (s.MbKeeps c) := by
  unfold State.nextBlock State.startBlock
  split
  · split <;> exact ⟨.of_eq rfl (Nat.le_refl _), rfl⟩
  · exact s.finishMacroblock_leaves

theorem State.setPattern_leaves (v : BitVec 6) : (s.setPattern v).Leaves (s.MbKeeps c) :=
  ((s.onMb fun m => { m with cbp := v }).nextBlock_leaves 0).after ⟨.of_eq rfl (Nat.le_refl _), rfl⟩

theorem State.afterMarker_leaves : s.afterMarker.Leaves (s.MbKeeps c) := by
  unfold State.afterMarker
  split
  · exact ⟨.of_eq rfl (Nat.le_refl _), rfl⟩
  · exact s.setPattern_leaves _

theorem State.afterVectors_leaves : s.afterVectors.Leaves (s.MbKeeps c) := by
  unfold State.afterVectors
  split
  · exact ⟨.of_eq rfl (Nat.le_refl _), rfl⟩
  · exact s.afterMarker_leaves

theorem State.enterMotion_leaves (r d t : Bool) : (s.enterMotion r d t).Leaves (s.MbKeeps c) := by
  unfold State.enterMotion
  split <;> exact ⟨.of_eq rfl (Nat.le_refl _), rfl⟩

theorem State.enterVectors_leaves (d : Bool) : (s.enterVectors d).Leaves (s.MbKeeps c) := by
  unfold State.enterVectors
  split
  · exact s.enterMotion_leaves _ _ _
  · exact ⟨.of_eq rfl (Nat.le_refl _), rfl⟩

theorem State.backwardVectors_leaves : s.backwardVectors.Leaves (s.MbKeeps c) := by
  unfold State.backwardVectors
  split
  · exact s.enterVectors_leaves _
  · exact s.afterVectors_leaves

theorem State.forwardVectors_leaves : s.forwardVectors.Leaves (s.MbKeeps c) := by
  unfold State.forwardVectors
  split
  · exact s.enterVectors_leaves _
  · exact s.backwardVectors_leaves

theorem State.vectorsDone_leaves (d : Bool) : (s.vectorsDone d).Leaves (s.MbKeeps c) := by
  unfold State.vectorsDone
  split
  · exact s.afterVectors_leaves
  · exact s.backwardVectors_leaves

theorem State.afterMotion_leaves (r d t : Bool) : (s.afterMotion r d t).Leaves (s.MbKeeps c) := by
  unfold State.afterMotion
  split_ifs
  · exact s.enterMotion_leaves _ _ _
  · exact ((s.onSlc fun x => x.copyPmv d).vectorsDone_leaves d).after ⟨.of_eq rfl (Nat.le_refl _), rfl⟩
  · exact ⟨.of_eq rfl (Nat.le_refl _), rfl⟩
  · exact s.vectorsDone_leaves d

theorem State.afterModes_leaves : s.afterModes.Leaves (s.MbKeeps c) := by
  unfold State.afterModes
  split
  · exact ⟨.of_eq rfl (Nat.le_refl _), rfl⟩
  · exact s.forwardVectors_leaves

theorem State.setMotionType_leaves (t : MotionType) : (s.setMotionType t).Leaves (s.MbKeeps c) := by
  unfold State.setMotionType
  dsimp only
  split
  · exact ⟨.of_eq rfl (Nat.le_refl _), rfl⟩
  · exact (s.onMb fun m => m.setModes t).afterModes_leaves.after ⟨.of_eq rfl (Nat.le_refl _), rfl⟩

theorem State.setType_leaves (f : MbFlags) : (s.setType f).Leaves (s.MbKeeps c) := by
  have key : ∀ t, ((s.onMb fun m => { m with mbType := f }).setMotionType t).Leaves (s.MbKeeps c) := fun t =>
    (State.setMotionType_leaves _ t).after ⟨.of_eq rfl (Nat.le_refl _), rfl⟩
  unfold State.setType
  dsimp only
  split_ifs
  · exact key _
  · exact ⟨.of_eq rfl (Nat.le_refl _), rfl⟩
  · exact key _
  · exact key _

theorem State.putDc_keeps (i : Fin 6) (diff : Int) : s.MbKeeps c (s.putDc i diff) := ⟨.of_eq rfl (Nat.le_refl _), rfl⟩

theorem State.putCoef_leaves (i : Fin 6) (run : Nat) (level : Int) : (s.putCoef i run level).Leaves (s.MbKeeps c) := by
  unfold State.putCoef
  dsimp only
  split_ifs <;> exact ⟨.of_eq rfl (Nat.le_refl _), rfl⟩

theorem State.coefControl_keeps (i : Fin 6) : s.MbKeeps c (s.coefControl i) := by
  unfold State.coefControl
  split <;> exact ⟨.of_eq rfl (Nat.le_refl _), rfl⟩

theorem State.consume_keeps (n : Nat) : s.MbKeeps c (s.consume n) := ⟨.of_eq rfl (Nat.le_add_right _ _), rfl⟩

-- ---------------------------------------------------------------- skipped macroblocks

/-- What a skip keeps besides: the backward vectors. -/
def State.KeepsBackward (t : State) : Prop := t.slc.pmv.p0.p1 = s.slc.pmv.p0.p1 ∧ t.slc.pmv.p1.p1 = s.slc.pmv.p1.p1

/-- From `s` to `t` some macroblocks with addresses in `A` are skipped. -/
def State.Skips (A : Nat → Prop) (t : State) : Prop := s.Keeps .mba A t ∧ s.KeepsBackward t

end

theorem State.Skips.trans {A : Nat → Prop} {s t u : State} (h : s.Skips A t) (k : t.Skips A u) : s.Skips A u :=
  ⟨h.1.trans k.1, k.2.1.trans h.2.1, k.2.2.trans h.2.2⟩

/-- The end of a skipped macroblock at an address in `A`. -/
theorem State.finishSkipped_leaves {A : Nat → Prop} (s : State) (hA : A s.slc.mba) (f : MbFlags) :
    (s.finishSkipped f).Leaves fun t => s.Skips A t ∧ t.slc.mba = s.slc.mba := by
  refine ((s.onMb fun m => { m with mbType := f }).keepType.reconstruct_leaves (c := .mba)).imp fun t ht => ?_
  obtain ⟨hkeeps, hslc⟩ := ht
  have hs : s.Keeps .mba A (s.onMb fun m => { m with mbType := f }).keepType := .of_eq rfl (Nat.le_refl _)
  refine ⟨⟨hs.trans (hkeeps.toKeeps.mono fun a ha => ha ▸ hA), ?_⟩, congrArg SliceRegs.mba hslc⟩
  unfold State.KeepsBackward
  rw [hslc]
  exact ⟨rfl, rfl⟩

theorem State.skippedMacroblock_leaves {A : Nat → Prop} (s : State) (hA : A s.slc.mba) :
    s.skippedMacroblock.Leaves fun t => s.Skips A t ∧ t.slc.mba = s.slc.mba := by
  have key : ∀ u : State, s.Skips A u → u.slc.mba = s.slc.mba → ∀ f,
      (u.finishSkipped f).Leaves fun t => s.Skips A t ∧ t.slc.mba = s.slc.mba := fun u hu hm f =>
    (u.finishSkipped_leaves (hm ▸ hA) f).imp fun t ht => ⟨hu.trans ht.1, ht.2.trans hm⟩
  unfold State.skippedMacroblock
  dsimp only
  split_ifs
  · refine key _ ?_ ?_ _
    · exact ⟨.of_eq rfl (Nat.le_refl _), rfl, rfl⟩
    · rfl
  · refine key _ ?_ ?_ _
    · exact ⟨.of_eq rfl (Nat.le_refl _), rfl, rfl⟩
    · rfl
  · exact ⟨⟨.of_eq rfl (Nat.le_refl _), rfl, rfl⟩, rfl⟩
  · exact ⟨⟨.of_eq rfl (Nat.le_refl _), rfl, rfl⟩, rfl⟩

/-- A run of skips changes only macroblocks after `mba`, at most `n` of them. -/
theorem State.skipRun_leaves {A : Nat → Prop} (n : Nat) (s : State) (hA : ∀ a, s.slc.mba < a → a ≤ s.slc.mba + n → A a) :
    (State.skipRun n s).Leaves (s.Skips A) := by
  induction n generalizing s with
  | zero => exact ⟨.refl s, rfl, rfl⟩
  | succ n ih =>
    have hadv : s.Skips A s.advance := ⟨.of_eq rfl (Nat.le_refl _), rfl, rfl⟩
    have hskip := s.advance.skippedMacroblock_leaves (hA (s.slc.mba + 1) (by omega) (by omega))
    refine Flow.Ends.bind (R := fun t => s.Skips A t ∧ t.slc.mba = s.slc.mba + 1)
      (hskip.mono (fun t ht => ⟨hadv.trans ht.1, ht.2⟩) (fun t ht => hadv.trans ht.1) fun t ht => hadv.trans ht.1)
      fun t ht => ?_
    obtain ⟨hst, hm⟩ := ht
    exact (ih t fun a h1 h2 => hA a (by omega) (by omega)).imp fun u hu => hst.trans hu

theorem State.firstMacroblock_leaves {A : Nat → Prop} (s : State) : s.firstMacroblock.Leaves (s.Skips A) := by
  unfold State.firstMacroblock
  dsimp only
  split_ifs <;> exact ⟨.of_eq rfl (Nat.le_refl _), rfl, rfl⟩

theorem State.nextMacroblocks_leaves {A : Nat → Prop} (s : State)
    (hA : ∀ a, s.slc.mba < a → a < s.slc.mba + s.slc.mbaInc → A a) : s.nextMacroblocks.Leaves (s.Skips A) := by
  unfold State.nextMacroblocks
  split_ifs
  · exact ⟨.refl s, rfl, rfl⟩
  · refine Flow.Ends.bind (s.skipRun_leaves _ fun a h1 h2 => hA a h1 (by omega)) fun t ht => ?_
    exact State.Skips.trans ht ⟨.of_eq rfl (Nat.le_refl _), rfl, rfl⟩

end Sys2Proof.Machine
end

section
/-! PROOFS. The frames of the elements of a slice: which register each element may change, and where it stands (O12, O58,
O59). -/

namespace Sys2Proof

/-- The elements of a macroblock, from its type to its last block. -/
def DecCtx.isMacroblock : DecCtx → Bool
  | .mbTypeI | .mbTypeP | .mbTypeB | .frameMotionType | .dctType | .mbQuant | .fieldSelect | .mv | .marker | .cbp | .dcl
  | .dcc | .dcDiff _ | .dct0 | .dct0First | .dct1 => true
  | _ => false

end Sys2Proof

namespace Sys2Proof.Machine

-- ---------------------------------------------------------------- where an element is due

/-- The places at which an element of context `c` is read. -/
def State.DueAt (s : State) : DecCtx → Prop
  | .startCode => ∃ m, s.ctx = .startCode m
  | .extId => ∃ m, s.ctx = .extId m
  | .seqExt => ∃ m, s.ctx = .seqExt m
  | .quantMatrix => ∃ m, s.ctx = .quantMatrix m
  | .picCodingExt => ∃ m, s.ctx = .picCodingExt m
  | .seqHeader => s.ctx = .seqHeader
  | .gop => s.ctx = .gop
  | .picHeader => s.ctx = .picHeader
  | .sliceHeader => s.ctx = .sliceHeader
  | .mba => ∃ first, s.ctx = .mba first
  | .mbTypeI | .mbTypeP | .mbTypeB => s.ctx = .mbType
  | .frameMotionType => s.ctx = .frameMotionType
  | .dctType => s.ctx = .dctType
  | .mbQuant => s.ctx = .mbQuant
  | .fieldSelect => ∃ r d, s.ctx = .fieldSelect r d
  | .mv => ∃ r d t, s.ctx = .motionCode r d t
  | .marker => s.ctx = .marker
  | .cbp => s.ctx = .cbp
  | .dcl | .dcc => ∃ i, s.ctx = .dcSize i
  | .dcDiff n => ∃ i, s.ctx = .dcDiff i n
  | .dct0 | .dct0First | .dct1 => ∃ i first, s.ctx = .coef i first

theorem State.dueAt_of_decCtx {s : State} {c : DecCtx} (h : s.decCtx = some c) : s.DueAt c := by
  unfold State.decCtx State.typeTable State.dctTable at h
  cases hx : s.ctx with
  | mbType =>
    simp only [hx, Option.some.injEq] at h
    split_ifs at h <;> exact h ▸ hx
  | dcSize i =>
    simp only [hx, Option.some.injEq] at h
    split_ifs at h <;> exact h ▸ ⟨i, hx⟩
  | coef i first =>
    simp only [hx, Option.some.injEq] at h
    split_ifs at h <;> exact h ▸ ⟨i, first, hx⟩
  | idle => simp only [hx, reduceCtorEq] at h
  | startCode m | extId m | seqExt m | quantMatrix m | picCodingExt m =>
    simp only [hx, Option.some.injEq] at h
    exact h ▸ ⟨m, hx⟩
  | mba first =>
    simp only [hx, Option.some.injEq] at h
    exact h ▸ ⟨first, hx⟩
  | fieldSelect r d =>
    simp only [hx, Option.some.injEq] at h
    exact h ▸ ⟨r, d, hx⟩
  | motionCode r d t =>
    simp only [hx, Option.some.injEq] at h
    exact h ▸ ⟨r, d, t, hx⟩
  | dcDiff i n =>
    simp only [hx, Option.some.injEq] at h
    exact h ▸ ⟨i, hx⟩
  | seqHeader | gop | picHeader | sliceHeader | frameMotionType | dctType | mbQuant | marker | cbp =>
    simp only [hx, Option.some.injEq] at h
    exact h ▸ hx

/-- An element that is not due where the core stands is out of context; any other ends as its parts say. -/
def Flow.EndsAt (due : Prop) (P C Q : State → Prop) (x : Flow) : Prop :=
  (¬ due ∧ x = .fault .outOfContext) ∨ (due ∧ x.Ends P C Q)

theorem Flow.EndsAt.mono {due : Prop} {P C Q P' C' Q' : State → Prop} {x : Flow} (h : x.EndsAt due P C Q)
    (hp : ∀ t, P t → P' t) (hc : ∀ t, due → C t → C' t) (hq : ∀ t, Q t → Q' t) : x.EndsAt due P' C' Q' :=
  h.imp id fun hx => ⟨hx.1, hx.2.mono hp (fun t => hc t hx.1) hq⟩

/-- A macroblock element due at its place keeps what `MbKeeps` says, however it ends. -/
abbrev State.MbElement (c : DecCtx) (s : State) (x : Flow) : Prop :=
  x.EndsAt (s.DueAt c) (s.MbKeeps c) (s.MbKeeps c) (s.MbKeeps c)

section
variable {c : DecCtx} {s : State}

theorem typeCode_element (hc : c = .mbTypeI ∨ c = .mbTypeP ∨ c = .mbTypeB) (len : Nat) (f : MbFlags) :
    s.MbElement c (typeCode len f s) := by
  have hdue : s.DueAt c = (s.ctx = .mbType) := by obtain rfl | rfl | rfl := hc <;> rfl
  rw [State.MbElement, hdue]
  unfold typeCode
  split
  · exact .inr ⟨‹_›, ((s.consume len).setType_leaves f).after (s.consume_keeps len)⟩
  · exact .inl ⟨‹_›, rfl⟩

theorem motionTypeField_element (m : BitVec 2) : s.MbElement .frameMotionType (motionTypeField m s) := by
  unfold motionTypeField
  split
  · refine .inr ⟨‹_›, ?_⟩
    dsimp only
    split_ifs
    · exact s.consume_keeps 2
    · exact ⟨_, rfl, s.consume_keeps 2⟩
    · exact ((s.consume 2).setMotionType_leaves _).after (s.consume_keeps 2)
    · exact ((s.consume 2).setMotionType_leaves _).after (s.consume_keeps 2)
  · exact .inl ⟨‹_›, rfl⟩

theorem dctTypeField_element (t : Bool) : s.MbElement .dctType (dctTypeField t s) := by
  unfold dctTypeField
  split
  · exact .inr ⟨‹_›, (State.afterModes_leaves _).after ⟨.of_eq rfl (Nat.le_add_right _ _), rfl⟩⟩
  · exact .inl ⟨‹_›, rfl⟩

theorem mbQuantField_element (q : BitVec 5) : s.MbElement .mbQuant (mbQuantField q s) := by
  have hquant : s.MbKeeps .mbQuant ((s.consume 5).setQuant q) :=
    ⟨.of_regs rfl (Nat.le_add_right _ _) (fun h => absurd rfl h) fun _ => rfl, rfl⟩
  unfold mbQuantField
  split
  · refine .inr ⟨‹_›, ?_⟩
    dsimp only
    split_ifs
    · exact s.consume_keeps 5
    · exact ((s.consume 5).setQuant q).forwardVectors_leaves.after hquant
  · exact .inl ⟨‹_›, rfl⟩

theorem fieldSelectField_element (f : Bool) : s.MbElement .fieldSelect (fieldSelectField f s) := by
  unfold fieldSelectField
  split
  · rename_i r d hm
    have hselect : s.MbKeeps .fieldSelect ((s.consume 1).onSlc fun x => x.setMvfs r d f) :=
      ⟨.of_regs rfl (Nat.le_add_right _ _) (fun _ => ⟨rfl, rfl⟩) fun h => absurd rfl h, rfl⟩
    exact .inr ⟨⟨r, d, hm⟩, (State.enterMotion_leaves _ r d false).after hselect⟩
  · rename_i h
    exact .inl ⟨fun ⟨r, d, hm⟩ => h r d hm, rfl⟩

theorem mvCode_element (len m : Nat) : s.MbElement .mv (mvCode len m s) := by
  unfold mvCode
  split
  · rename_i r d t hm
    obtain ⟨n, v, he⟩ := (s.consume len).motionCode_eq r d t m
    rw [he]
    refine .inr ⟨⟨r, d, t, hm⟩, (State.afterMotion_leaves _ r d t).after ⟨.of_eq rfl ?_, rfl⟩⟩
    exact Nat.le_trans (Nat.le_add_right _ len) (Nat.le_add_right _ n)
  · rename_i h
    exact .inl ⟨fun ⟨r, d, t, hm⟩ => h r d t hm, rfl⟩

theorem markerField_element : s.MbElement .marker (markerField s) := by
  unfold markerField
  split
  · exact .inr ⟨‹_›, (s.consume 1).afterMarker_leaves.after (s.consume_keeps 1)⟩
  · exact .inl ⟨‹_›, rfl⟩

theorem cbpCode_element (len : Nat) (v : BitVec 6) : s.MbElement .cbp (cbpCode len v s) := by
  unfold cbpCode
  split
  · exact .inr ⟨‹_›, ((s.consume len).setPattern_leaves v).after (s.consume_keeps len)⟩
  · exact .inl ⟨‹_›, rfl⟩

theorem dcSizeCode_element (hc : c = .dcl ∨ c = .dcc) (len size : Nat) : s.MbElement c (dcSizeCode len size s) := by
  have hdue : s.DueAt c = ∃ i, s.ctx = .dcSize i := by obtain rfl | rfl := hc <;> rfl
  rw [State.MbElement, hdue]
  unfold dcSizeCode
  split
  · rename_i i hm
    refine .inr ⟨⟨i, hm⟩, ?_⟩
    dsimp only
    split
    · exact (s.consume_keeps len).trans (State.putDc_keeps _ i 0)
    · exact ⟨.of_eq rfl (Nat.le_add_right _ _), rfl⟩
  · rename_i h
    exact .inl ⟨fun ⟨i, hm⟩ => h i hm, rfl⟩

theorem dcDiffField_element (size v : Nat) : s.MbElement (.dcDiff size) (dcDiffField size v s) := by
  unfold dcDiffField
  split
  · rename_i i n hm
    split_ifs with hn
    · subst hn
      exact .inr ⟨⟨i, hm⟩, (s.consume_keeps n).trans (State.putDc_keeps _ i _)⟩
    · refine .inl ⟨fun ⟨j, hj⟩ => hn ?_, rfl⟩
      rw [hm] at hj
      cases hj
      rfl
  · rename_i h
    exact .inl ⟨fun ⟨i, hm⟩ => h i size hm, rfl⟩

theorem coef_dueAt (hc : c = .dct0 ∨ c = .dct0First ∨ c = .dct1) : s.DueAt c = ∃ i first, s.ctx = .coef i first := by
  obtain rfl | rfl | rfl := hc <;> rfl

theorem coefCode_element (hc : c = .dct0 ∨ c = .dct0First ∨ c = .dct1) (len run level : Nat) (sign : Bool) :
    s.MbElement c (coefCode len run level sign s) := by
  rw [State.MbElement, coef_dueAt hc]
  unfold coefCode
  split
  · rename_i i first hm
    exact .inr ⟨⟨i, first, hm⟩, (State.putCoef_leaves _ i run _).after (s.consume_keeps _)⟩
  · rename_i h
    exact .inl ⟨fun ⟨i, first, hm⟩ => h i first hm, rfl⟩

theorem escapeCode_element (hc : c = .dct0 ∨ c = .dct0First ∨ c = .dct1) (len : Nat) (run : BitVec 6) (level : BitVec 12) :
    s.MbElement c (escapeCode len run level s) := by
  rw [State.MbElement, coef_dueAt hc]
  unfold escapeCode
  split
  · rename_i i first hm
    refine .inr ⟨⟨i, first, hm⟩, ?_⟩
    dsimp only
    split_ifs
    · exact s.consume_keeps _
    · exact (State.putCoef_leaves _ i _ _).after (s.consume_keeps _)
  · rename_i h
    exact .inl ⟨fun ⟨i, first, hm⟩ => h i first hm, rfl⟩

theorem endOfBlock_element (hc : c = .dct0 ∨ c = .dct0First ∨ c = .dct1) (len : Nat) :
    s.MbElement c (endOfBlock len s) := by
  rw [State.MbElement, coef_dueAt hc]
  unfold endOfBlock
  split
  · rename_i i first hm
    exact .inr ⟨⟨i, first, hm⟩, (State.nextBlock_leaves _ _).after ((s.consume_keeps len).trans (State.coefControl_keeps _ i))⟩
  · rename_i h
    exact .inl ⟨fun ⟨i, first, hm⟩ => h i first hm, rfl⟩

end

theorem Runs.mbElement {c : DecCtx} {f : State → Flow} (hf : Runs c f) (hc : c.isMacroblock = true) (s : State) :
    s.MbElement c (f s) := by
  cases hf with
  | mbType h len _ => exact typeCode_element h len _
  | frameMotionType => exact motionTypeField_element _
  | dctType => exact dctTypeField_element _
  | mbQuant => exact mbQuantField_element _
  | fieldSelect => exact fieldSelectField_element _
  | marker => exact markerField_element
  | dcDifferential => exact dcDiffField_element _ _
  | cbp len v => exact cbpCode_element len v
  | mv len m => exact mvCode_element len m
  | dcSize h len _ => exact dcSizeCode_element h len _
  | coefficient h len run level sign => exact coefCode_element h len run level sign
  | escape h len run level => exact escapeCode_element h len run level
  | endOfBlock h len => exact endOfBlock_element h len
  | _ => cases hc

-- ---------------------------------------------------------------- address increments

theorem mbaCode_leaves (s : State) (len v : Nat) :
    (mbaCode len v s).EndsAt (s.DueAt .mba)
      (s.Skips fun a => s.slc.mba < a ∧ a < s.slc.mba + (s.slc.mbaInc + v))
      (s.Skips fun a => s.slc.mba < a ∧ a < s.slc.mba + (s.slc.mbaInc + v))
      (s.Skips fun a => s.slc.mba < a ∧ a < s.slc.mba + (s.slc.mbaInc + v)) := by
  unfold mbaCode
  split
  · rename_i first hm
    have hs : ∀ A, s.Skips A ((s.consume len).onSlc fun r => { r with mbaInc := r.mbaInc + v }) := fun A =>
      ⟨.of_eq rfl (Nat.le_add_right _ _), rfl, rfl⟩
    refine .inr ⟨⟨first, hm⟩, ?_⟩
    dsimp only
    split_ifs
    · exact Flow.Leaves.imp (State.firstMacroblock_leaves _) fun t ht => (hs _).trans ht
    · exact Flow.Leaves.imp (State.nextMacroblocks_leaves _ fun a h1 h2 => ⟨h1, h2⟩) fun t ht => (hs _).trans ht
  · rename_i h
    exact .inl ⟨fun ⟨first, hm⟩ => h first hm, rfl⟩

theorem mbaEscape_leaves (s : State) (len : Nat) (A : Nat → Prop) :
    (mbaEscape len s).EndsAt (s.DueAt .mba) (s.Keeps .mba A) (s.Keeps .mba A) (s.Keeps .mba A) := by
  unfold mbaEscape
  split
  · rename_i first hm
    exact .inr ⟨⟨first, hm⟩, .of_eq rfl (Nat.le_add_right _ _)⟩
  · rename_i h
    exact .inl ⟨fun ⟨first, hm⟩ => h first hm, rfl⟩

end Sys2Proof.Machine

-- ---------------------------------------------------------------- taking a Corrupt event

namespace Sys2Proof
open Machine

/-- Settles O12: `getStartCode` finds the next start code or the end of the buffer, and the event is logged before it. -/
theorem takeCorrupt : Obligations.TakeCorrupt := by
  intro c s
  refine ⟨fun p hp => ?_, fun hn => ?_⟩
  · rw [Machine.takeCorrupt, State.getStartCode_of_nextPrefix (s := s.log (.corrupt c s.cmd.bp)) hp]
    rfl
  · rw [Machine.takeCorrupt, State.getStartCode_of_noPrefix (s := s.log (.corrupt c s.cmd.bp)) hn]
    rfl

end Sys2Proof

namespace Sys2Proof.Machine

/-- A Corrupt event taken moves the cursor forward or to the end of the buffer (R206). -/
theorem takeCorrupt_bp (c : CorruptCode) (s : State) :
    s.cmd.bp ≤ (takeCorrupt c s).cmd.bp ∨ (takeCorrupt c s).cmd.bp = 8 * s.bufLen := by
  obtain hn | ⟨p, hp⟩ := s.noPrefix_or_nextPrefix
  · rw [(Sys2Proof.takeCorrupt c s).2 hn]
    exact .inr rfl
  · rw [(Sys2Proof.takeCorrupt c s).1 p hp]
    exact .inl hp.2.1

-- ---------------------------------------------------------------- the frames of a slice's elements

theorem isMacroblock_of_mem : ∀ c ∈ [DecCtx.mbTypeI, .mbTypeP, .mbTypeB, .frameMotionType, .dctType, .mbQuant, .fieldSelect,
    .mv, .marker, .cbp, .dcl, .dcc, .dct0, .dct0First, .dct1], c.isMacroblock = true := by decide

/-- What O58 says of a macroblock element. -/
theorem State.MbKeeps.frame {c : DecCtx} {s t : State} (h : s.MbKeeps c t) :
    t.seq = s.seq ∧ t.pic = s.pic ∧ t.outbox = s.outbox ∧ { t.inst with fb := s.inst.fb } = s.inst ∧
    t.slc.mba = s.slc.mba ∧ t.slc.sliceRow = s.slc.sliceRow ∧
    (c ≠ .mbQuant → t.slc.quantiser_scale_code = s.slc.quantiser_scale_code ∧
      t.slc.quantiserScale = s.slc.quantiserScale) ∧
    (c ≠ .fieldSelect → t.slc.mvfs = s.slc.mvfs) ∧
    (∀ n, s.OutsideMb s.inst.curIdx s.slc.mba n → t.inst.fb.read n = s.inst.fb.read n) :=
  ⟨h.seq, h.pic, h.outbox, h.inst, h.mba, h.row, h.quant, h.mvfs, fun n hn => h.samples n fun _ ha => ha ▸ hn⟩

/-- Settles O58: a macroblock element keeps what `MbKeeps` says, and so does a Corrupt event taken after it. -/
theorem macroblockFrame : Obligations.MacroblockFrame := by
  intro i s t c hc hi hnext
  have hmb : c.isMacroblock = true := by
    obtain h | ⟨n, rfl⟩ := hc
    · exact isMacroblock_of_mem c h
    · rfl
  obtain ⟨f, hf, he⟩ := exec_runs hi
  rw [he s] at hnext
  obtain ⟨-, hout⟩ | ⟨-, hends⟩ := hf.mbElement hmb s
  · rw [hout] at hnext
    cases hnext
  · obtain hgo | ⟨k, u, hcorrupt, rfl⟩ := Flow.finish_eq_next hnext
    · rw [hgo] at hends
      exact State.MbKeeps.frame hends
    · rw [hcorrupt] at hends
      obtain ⟨p, hp⟩ := takeCorrupt_eq k u
      rw [hp]
      have hu : s.MbKeeps c u := hends
      exact hu.frame

-- ---------------------------------------------------------------- the frame of an address increment

/-- A stop of an outcome is a fault or a refusal of the flow. -/
theorem stopsWith_finish {x : Flow} {t : State} (h : StopsWith x.finish t) :
    (∃ f, x = .fault f ∧ leftByFault f = some t) ∨ ∃ r, x = .refuse r ∧ leftByRefusal r = some t := by
  obtain ⟨f, hf, ht⟩ | ⟨r, hr, ht⟩ := h
  · cases x with
    | fault g =>
      cases hf
      exact .inl ⟨_, rfl, ht⟩
    | go | corrupt | refuse => cases hf
  · cases x with
    | refuse q =>
      cases hr
      exact .inr ⟨_, rfl, ht⟩
    | go | corrupt | fault => cases hr

theorem leftByFault_raise (e : ReadFault) (s : State) : leftByFault (e.raise s) = some s := by cases e <;> rfl

/-- The state the fault of a reconstruction leaves is the one it was tried in (R673). -/
theorem State.CannotReconstruct.left {s t : State} {f : Fault} (h : s.CannotReconstruct f) (ht : leftByFault f = some t) :
    t = s := by
  obtain ⟨e, -, rfl⟩ | ⟨-, rfl⟩ := h
  · exact Option.some.inj (ht.symm.trans (leftByFault_raise e s))
  · exact Option.some.inj ht.symm

theorem State.Extends.mbCount {s t : State} (h : s.Extends t) : t.mbCount = s.mbCount := by
  unfold State.mbCount State.mbWidth State.mbHeight State.width State.height
  rw [h.seq]

/-- Where later increments stop: at a skipped macroblock on the grid, after those before it are written (R673). -/
theorem State.nextMacroblocks_stops {s t : State} (h : StopsWith s.nextMacroblocks.finish t) :
    s.slc.mba < t.slc.mba ∧ t.slc.mba < s.slc.mba + s.slc.mbaInc ∧
    ((∃ e, t.prediction = .error e ∧ s.nextMacroblocks.finish = .fault (e.raise t)) ∨
      (t.inst.allocated ≠ some (t.width, t.height) ∧ s.nextMacroblocks.finish = .fault (.unwritten t))) ∧
    ∀ a, s.slc.mba < a → a < t.slc.mba → t.MbWritten t.inst.curIdx a := by
  obtain ⟨hfault, hrefuse⟩ := State.skipRun_stops (n := s.slc.mbaInc - 1) (s := s)
  unfold State.nextMacroblocks at h ⊢
  split_ifs at h ⊢ with hover
  · obtain ⟨f, hf, -⟩ | ⟨r, hr, -⟩ := stopsWith_finish h
    · cases hf
    · cases hr
  · cases hrun : State.skipRun (s.slc.mbaInc - 1) s with
    | go u =>
      rw [hrun] at h
      obtain ⟨f, hf, -⟩ | ⟨r, hr, -⟩ := stopsWith_finish h
      · cases hf
      · cases hr
    | corrupt c u =>
      rw [hrun] at h
      obtain ⟨f, hf, -⟩ | ⟨r, hr, -⟩ := stopsWith_finish h
      · cases hf
      · cases hr
    | refuse r => exact absurd hrun (hrefuse r)
    | fault f =>
      obtain ⟨u, hcannot, hext, hlt, hle, hwritten⟩ := hfault f hrun
      rw [hrun] at h
      obtain ⟨g, hg, ht⟩ | ⟨r, hr, -⟩ := stopsWith_finish h
      · cases hg
        obtain rfl := hcannot.left ht
        refine ⟨hlt, by omega, ?_, hwritten⟩
        obtain ⟨e, he, rfl⟩ | ⟨hready, rfl⟩ := hcannot
        · exact .inl ⟨e, he, rfl⟩
        · refine .inr ⟨fun ha => ?_, rfl⟩
          rw [State.reconReady_of_grid ha (by rw [hext.mbCount]; omega)] at hready
          cases hready
      · cases hr

/-- The first increment of a slice writes no sample and never stops (R611). -/
theorem State.firstMacroblock_finish (s : State) :
    (∀ t, ¬ StopsWith s.firstMacroblock.finish t) ∧ ∀ t, s.firstMacroblock.finish = .next t → t.inst.fb = s.inst.fb := by
  unfold State.firstMacroblock
  dsimp only
  split_ifs
  · refine ⟨fun t h => ?_, fun t h => ?_⟩
    · obtain ⟨f, hf, -⟩ | ⟨r, hr, -⟩ := stopsWith_finish h
      · cases hf
      · cases hr
    · cases h
      obtain ⟨p, hp⟩ := takeCorrupt_eq .mbAddressOverflow s
      rw [hp]
  · refine ⟨fun t h => ?_, fun t h => ?_⟩
    · obtain ⟨f, hf, -⟩ | ⟨r, hr, -⟩ := stopsWith_finish h
      · cases hf
      · cases hr
    · cases h
      rfl

/-- What O59 says of an increment that answers a next state, but for the first one's samples. -/
theorem State.Skips.frame {A : Nat → Prop} {s t : State} (h : s.Skips A t) :
    t.seq = s.seq ∧ t.pic = s.pic ∧ t.outbox = s.outbox ∧ { t.inst with fb := s.inst.fb } = s.inst ∧
    t.slc.quantiser_scale_code = s.slc.quantiser_scale_code ∧ t.slc.quantiserScale = s.slc.quantiserScale ∧
    t.slc.mvfs = s.slc.mvfs ∧ t.slc.sliceRow = s.slc.sliceRow ∧
    t.slc.pmv.p0.p1 = s.slc.pmv.p0.p1 ∧ t.slc.pmv.p1.p1 = s.slc.pmv.p1.p1 ∧
    ∀ n, (∀ a, A a → s.OutsideMb s.inst.curIdx a n) → t.inst.fb.read n = s.inst.fb.read n := by
  obtain ⟨hk, h0, h1⟩ := h
  obtain ⟨hcode, hscale⟩ := hk.quant (by decide)
  exact ⟨hk.seq, hk.pic, hk.outbox, hk.inst, hcode, hscale, hk.mvfs (by decide), hk.row, h0, h1, hk.samples⟩

/-- Settles O59: the stops are those of the run of skips, the frame is what a run of skips keeps. -/
theorem addressFrame : Obligations.AddressFrame := by
  intro r hr s t
  rw [exec_mbaRows r hr s]
  refine ⟨fun hstop => ?_, fun hnext => ?_⟩
  · unfold mbaCode at hstop ⊢
    split at hstop
    · dsimp only at hstop ⊢
      split_ifs at hstop ⊢
      · exact absurd hstop ((State.firstMacroblock_finish _).1 t)
      · exact State.nextMacroblocks_stops hstop
    · obtain ⟨f, hf, ht⟩ | ⟨q, hq, -⟩ := stopsWith_finish hstop
      · cases hf
        cases ht
      · cases hq
  · have hfirst : s.ctx = .mba true → t.inst.fb = s.inst.fb := by
      intro hm
      rw [mbaCode, hm] at hnext
      have := (State.firstMacroblock_finish _).2 t hnext
      exact this
    have hskips : ∃ u, s.Skips (fun a => s.slc.mba < a ∧ a < s.slc.mba + (s.slc.mbaInc + r.2.2)) u ∧
        (t = u ∨ ∃ k, t = takeCorrupt k u) := by
      obtain ⟨-, hout⟩ | ⟨-, hends⟩ := mbaCode_leaves s r.2.1 r.2.2
      · rw [hout] at hnext
        cases hnext
      · obtain hgo | ⟨k, u, hcorrupt, rfl⟩ := Flow.finish_eq_next hnext
        · rw [hgo] at hends
          exact ⟨t, hends, .inl rfl⟩
        · rw [hcorrupt] at hends
          exact ⟨u, hends, .inr ⟨k, rfl⟩⟩
    obtain ⟨u, hu, ht⟩ := hskips
    obtain ⟨hseq, hpic, hout, hinst, hcode, hscale, hmvfs, hrow, h0, h1, hsamples⟩ := hu.frame
    obtain rfl | ⟨k, rfl⟩ := ht
    · exact ⟨hseq, hpic, hout, hinst, hcode, hscale, hmvfs, hrow, h0, h1, hfirst, fun n hn => hsamples n fun a ha => hn a ha.1 ha.2⟩
    · obtain ⟨p, hp⟩ := takeCorrupt_eq k u
      rw [hp] at hfirst ⊢
      exact ⟨hseq, hpic, hout, hinst, hcode, hscale, hmvfs, hrow, h0, h1, hfirst, fun n hn => hsamples n fun a ha => hn a ha.1 ha.2⟩

end Sys2Proof.Machine
end

section
/-! PROOFS. The frames of start codes and headers, and of every instruction (O56, O57). -/

namespace Sys2Proof.Machine

-- ---------------------------------------------------------------- what every element keeps

/-- No entry of a log is a Corrupt event. -/
def NoCorrupt (l : List LogEntry) : Prop := ∀ k p, LogEntry.corrupt k p ∉ l

/-- What every element that goes on keeps: the parameters, the host's queue, the packet; the log and the answers grow at their
end, the log by no Corrupt event, and the cursor does not go back. -/
structure State.CmdFrame (s t : State) : Prop where
  cfg : t.cfg = s.cfg
  inbox : t.inbox = s.inbox
  pkt : t.cmd.pkt = s.cmd.pkt
  pts : t.cmd.pts = s.cmd.pts
  cmdNo : t.cmd.cmdNo = s.cmd.cmdNo
  log : ∃ l, t.cmd.errLog = s.cmd.errLog ++ l ∧ NoCorrupt l
  outbox : ∃ l, t.outbox = s.outbox ++ l
  bp : s.cmd.bp ≤ t.cmd.bp

/-- What an element keeps that raises a Corrupt event or stops: nothing is logged or answered, no sample becomes unwritten. -/
structure State.StopFrame (s t : State) : Prop where
  cfg : t.cfg = s.cfg
  inbox : t.inbox = s.inbox
  outbox : t.outbox = s.outbox
  phase : t.inst.phase = s.inst.phase
  cmd : { t.cmd with bp := s.cmd.bp } = s.cmd
  bp : s.cmd.bp ≤ t.cmd.bp
  written : ∀ n, (s.inst.fb.read n).isSome → (t.inst.fb.read n).isSome

/-- What start codes, extensions and headers keep besides: every sample, the sequence registers, the macroblock registers and
the slice registers but the row. -/
structure State.HeaderKeeps (s t : State) : Prop extends s.CmdFrame t where
  fb : t.inst.fb = s.inst.fb
  allocated : t.inst.allocated = s.inst.allocated
  auxIdx : t.inst.auxIdx = s.inst.auxIdx
  mba : t.slc.mba = s.slc.mba
  mb : t.mb = s.mb
  slc : { t.slc with sliceRow := s.slc.sliceRow } = s.slc
  seq : t.seq = s.seq

theorem NoCorrupt.nil : NoCorrupt [] := fun _ _ => List.not_mem_nil

theorem NoCorrupt.append {l m : List LogEntry} (hl : NoCorrupt l) (hm : NoCorrupt m) : NoCorrupt (l ++ m) :=
  fun k p h => (List.mem_append.1 h).elim (hl k p) (hm k p)

section
variable {c : DecCtx} {A : Nat → Prop} {s t u : State}

theorem State.CmdFrame.trans (h : s.CmdFrame t) (k : t.CmdFrame u) : s.CmdFrame u := by
  obtain ⟨l, hl, hnl⟩ := h.log
  obtain ⟨m, hm, hnm⟩ := k.log
  obtain ⟨o, ho⟩ := h.outbox
  obtain ⟨q, hq⟩ := k.outbox
  exact ⟨k.cfg.trans h.cfg, k.inbox.trans h.inbox, k.pkt.trans h.pkt, k.pts.trans h.pts, k.cmdNo.trans h.cmdNo,
    ⟨l ++ m, by rw [hm, hl, List.append_assoc], hnl.append hnm⟩, ⟨o ++ q, by rw [hq, ho, List.append_assoc]⟩,
    h.bp.trans k.bp⟩

/-- The command registers but the cursor, and the queues, are equal. -/
theorem State.CmdFrame.of_eq (hcfg : t.cfg = s.cfg) (hinbox : t.inbox = s.inbox) (houtbox : t.outbox = s.outbox)
    (hcmd : { t.cmd with bp := s.cmd.bp } = s.cmd) (hbp : s.cmd.bp ≤ t.cmd.bp) : s.CmdFrame t := by
  have hpkt := congrArg CommandState.pkt hcmd
  have hpts := congrArg CommandState.pts hcmd
  have hno := congrArg CommandState.cmdNo hcmd
  have hlog := congrArg CommandState.errLog hcmd
  exact ⟨hcfg, hinbox, hpkt, hpts, hno, ⟨[], hlog.trans (List.append_nil _).symm, .nil⟩,
    ⟨[], houtbox.trans (List.append_nil _).symm⟩, hbp⟩

theorem State.Keeps.cmdFrame (h : s.Keeps c A t) : s.CmdFrame t := .of_eq h.cfg h.inbox h.outbox h.cmd h.bp

theorem State.Keeps.stopFrame (h : s.Keeps c A t) : s.StopFrame t := by
  have hphase := congrArg InstanceState.phase h.inst
  exact ⟨h.cfg, h.inbox, h.outbox, hphase, h.cmd, h.bp, h.written⟩

theorem State.HeaderKeeps.trans (h : s.HeaderKeeps t) (k : t.HeaderKeeps u) : s.HeaderKeeps u where
  toCmdFrame := h.toCmdFrame.trans k.toCmdFrame
  fb := k.fb.trans h.fb
  allocated := k.allocated.trans h.allocated
  auxIdx := k.auxIdx.trans h.auxIdx
  mba := k.mba.trans h.mba
  mb := k.mb.trans h.mb
  slc := by
    have := h.slc
    rw [← k.slc] at this
    exact this
  seq := k.seq.trans h.seq

/-- A change of the place, the cursor, the picture registers, the row, the phase, the roles and the ring alone. -/
theorem State.HeaderKeeps.of_eq (hcfg : t.cfg = s.cfg) (hqueues : (t.inbox, t.outbox) = (s.inbox, s.outbox))
    (hcmd : { t.cmd with bp := s.cmd.bp } = s.cmd) (hbp : s.cmd.bp ≤ t.cmd.bp)
    (hinst : (t.inst.fb, t.inst.allocated, t.inst.auxIdx) = (s.inst.fb, s.inst.allocated, s.inst.auxIdx))
    (hslc : (t.slc.mba, { t.slc with sliceRow := s.slc.sliceRow }) = (s.slc.mba, s.slc)) (hmb : t.mb = s.mb)
    (hseq : t.seq = s.seq) : s.HeaderKeeps t := by
  simp only [Prod.mk.injEq] at hqueues hinst hslc
  obtain ⟨hfb, halloc, haux⟩ := hinst
  exact ⟨.of_eq hcfg hqueues.1 hqueues.2 hcmd hbp, hfb, halloc, haux, hslc.1, hmb, hslc.2, hseq⟩

end

section
variable (s : State)

theorem State.setCtx_headerKeeps (c : Ctx) : s.HeaderKeeps (s.setCtx c) :=
  .of_eq rfl rfl rfl (Nat.le_refl _) rfl rfl rfl rfl

theorem State.consume_headerKeeps (n : Nat) : s.HeaderKeeps (s.consume n) :=
  .of_eq rfl rfl rfl (Nat.le_add_right _ _) rfl rfl rfl rfl

theorem State.setPhase_headerKeeps (p : Phase) : s.HeaderKeeps (s.setPhase p) :=
  .of_eq rfl rfl rfl (Nat.le_refl _) rfl rfl rfl rfl

theorem State.log_headerKeeps {e : LogEntry} (he : ∀ k p, e ≠ .corrupt k p) : s.HeaderKeeps (s.log e) :=
  ⟨⟨rfl, rfl, rfl, rfl, rfl, ⟨[e], rfl, fun k p h => he k p (List.mem_singleton.1 h).symm⟩,
    ⟨[], (List.append_nil _).symm⟩, Nat.le_refl _⟩, rfl, rfl, rfl, rfl, rfl, rfl, rfl⟩

theorem State.finishDecode_headerKeeps (ok : Bool) (n : Nat) : s.HeaderKeeps (s.finishDecode ok n) :=
  ⟨⟨rfl, rfl, rfl, rfl, rfl, ⟨[], (List.append_nil _).symm, .nil⟩, ⟨_, rfl⟩, Nat.le_refl _⟩, rfl, rfl, rfl, rfl, rfl, rfl,
    rfl⟩

-- ---------------------------------------------------------------- start codes

theorem State.finishPicture_headerKeeps (atCode : Bool) : s.HeaderKeeps (s.finishPicture atCode) := by
  refine State.HeaderKeeps.trans ?_ (State.finishDecode_headerKeeps _ _ _)
  exact .of_eq rfl rfl rfl (Nat.le_refl _) rfl rfl rfl rfl

theorem State.topCode_headerKeeps (c : Byte) : s.HeaderKeeps (s.topCode c) := by
  unfold State.topCode
  split_ifs
  · exact s.setCtx_headerKeeps _
  · exact s.setCtx_headerKeeps _
  · exact s.setCtx_headerKeeps _
  · exact s.setCtx_headerKeeps _
  · exact s.setCtx_headerKeeps _
  · exact s.setCtx_headerKeeps _
  · exact ((s.log_headerKeeps (by simp)).trans (State.setPhase_headerKeeps _ _)).trans (State.setCtx_headerKeeps _ _)
  · exact (s.log_headerKeeps (by simp)).trans (State.setCtx_headerKeeps _ _)
  · exact (s.log_headerKeeps (by simp)).trans (State.setCtx_headerKeeps _ _)

theorem State.sliceLoop_headerKeeps (c : Byte) : s.HeaderKeeps (s.sliceLoop c) := by
  unfold State.sliceLoop
  split
  · exact .of_eq rfl rfl rfl (Nat.le_refl _) rfl rfl rfl rfl
  · exact s.finishPicture_headerKeeps true

theorem State.skipLoop_headerKeeps (c : Byte) : s.HeaderKeeps (s.skipLoop c) := by
  unfold State.skipLoop
  split
  · exact s.setCtx_headerKeeps _
  · exact (s.setPhase_headerKeeps _).trans (State.topCode_headerKeeps _ c)

theorem State.startPicture_headerKeeps : s.HeaderKeeps s.startPicture := by
  unfold State.startPicture
  by_cases h : s.pic.picture_coding_type = 1 ∨ s.pic.picture_coding_type = 2
  · simp only [h, if_true]
    exact .of_eq rfl rfl rfl (Nat.le_refl _) rfl rfl rfl rfl
  · simp only [h, if_false]
    exact .of_eq rfl rfl rfl (Nat.le_refl _) rfl rfl rfl rfl

theorem State.HeaderKeeps.stopFrame {s t : State} (h : s.HeaderKeeps t) (hcmd : { t.cmd with bp := s.cmd.bp } = s.cmd)
    (hout : t.outbox = s.outbox) (hphase : t.inst.phase = s.inst.phase) : s.StopFrame t :=
  ⟨h.cfg, h.inbox, hout, hphase, hcmd, h.bp, fun n hn => by rw [h.fb]; exact hn⟩

theorem State.afterExtensions_ends (c : Option Byte) :
    (s.afterExtensions c).Ends s.HeaderKeeps (fun _ => False) s.StopFrame := by
  have h1 : ∀ s1, s1 = (if s.pic.pceSeen then s else s.noPceDefaults) →
      s.HeaderKeeps s1 ∧ s1.cmd = s.cmd ∧ s1.outbox = s.outbox ∧ s1.inst = s.inst := by
    rintro s1 rfl
    split <;> exact ⟨.of_eq rfl rfl rfl (Nat.le_refl _) rfl rfl rfl rfl, rfl, rfl, rfl⟩
  unfold State.afterExtensions
  generalize hs1 : (if s.pic.pceSeen then s else s.noPceDefaults) = s1
  obtain ⟨hk, hcmd, hout, hinst⟩ := h1 s1 hs1.symm
  dsimp only
  split_ifs
  · exact ⟨s1, rfl, hk.stopFrame (by rw [hcmd]) hout (by rw [hinst])⟩
  · have h2 := (hk.trans s1.startPicture_headerKeeps).trans (State.setPhase_headerKeeps _ .decodingSlices)
    cases c with
    | some c => exact h2.trans (State.sliceLoop_headerKeeps _ c)
    | none => exact h2.trans (State.finishPicture_headerKeeps _ false)
  · have h2 := hk.trans (s1.log_headerKeeps (e := .skippedPicture s1.pic.picture_coding_type s1.cmd.bp) (by simp))
    cases c with
    | some c => exact h2.trans (State.skipLoop_headerKeeps _ c)
    | none => exact (h2.trans (State.setPhase_headerKeeps _ _)).trans (State.finishDecode_headerKeeps _ _ _)

theorem State.StopFrame.after {s t u : State} (h : s.HeaderKeeps t) (hcmd : { t.cmd with bp := s.cmd.bp } = s.cmd)
    (hout : t.outbox = s.outbox) (hphase : t.inst.phase = s.inst.phase) (k : t.StopFrame u) : s.StopFrame u where
  cfg := k.cfg.trans h.cfg
  inbox := k.inbox.trans h.inbox
  outbox := k.outbox.trans hout
  phase := k.phase.trans hphase
  cmd := by
    have := hcmd
    rw [← k.cmd] at this
    exact this
  bp := h.bp.trans k.bp
  written := fun n hn => k.written n (by rw [h.fb]; exact hn)

theorem startCodeElem_ends (c : Byte) :
    (startCodeElem c s).EndsAt (s.DueAt .startCode) s.HeaderKeeps (fun _ => False) s.StopFrame := by
  unfold startCodeElem
  split
  · rename_i m hm
    refine .inr ⟨⟨m, hm⟩, ?_⟩
    have h1 := s.consume_headerKeeps 32
    cases m with
    | top => exact h1.trans (State.topCode_headerKeeps _ c)
    | picExt =>
      dsimp only
      split_ifs
      · exact h1.trans (State.setCtx_headerKeeps _ _)
      · exact h1
      · exact ((s.consume 32).afterExtensions_ends _).mono (fun t ht => h1.trans ht) (fun _ => id) fun t ht =>
          ht.after h1 rfl rfl rfl
    | slices => exact h1.trans (State.sliceLoop_headerKeeps _ c)
    | skipSlices => exact h1.trans (State.skipLoop_headerKeeps _ c)
  · rename_i h
    exact .inl ⟨fun ⟨m, hm⟩ => h m hm, rfl⟩

-- ---------------------------------------------------------------- extensions and headers

/-- What the header element of context `c` keeps besides what every element does (O57). -/
structure State.HeaderFrame (c : DecCtx) (s t : State) : Prop where
  fb : t.inst.fb = s.inst.fb
  allocated : t.inst.allocated = s.inst.allocated
  auxIdx : t.inst.auxIdx = s.inst.auxIdx
  mba : t.slc.mba = s.slc.mba
  lower : c ≠ .sliceHeader → t.mb = s.mb ∧ { t.slc with sliceRow := s.slc.sliceRow } = s.slc
  mb : { t.mb with prevMbType := s.mb.prevMbType } = s.mb
  inst : c ≠ .startCode → t.inst = s.inst ∧ t.outbox = s.outbox
  seq : c ≠ .seqExt → c ≠ .quantMatrix → t.seq = s.seq
  pic : c ≠ .startCode → c ≠ .picCodingExt → c ≠ .picHeader → t.pic = s.pic

theorem State.HeaderKeeps.frame {s t : State} (h : s.HeaderKeeps t) : s.HeaderFrame .startCode t where
  fb := h.fb
  allocated := h.allocated
  auxIdx := h.auxIdx
  mba := h.mba
  lower := fun _ => ⟨h.mb, h.slc⟩
  mb := by rw [h.mb]
  inst := fun hc => absurd rfl hc
  seq := fun _ _ => h.seq
  pic := fun hc => absurd rfl hc

/-- The headers but the start codes and the sequence header, with what each keeps; a Corrupt event is raised in a slice
header alone. -/
abbrev State.HeaderElement (c : DecCtx) (s : State) (x : Flow) : Prop :=
  x.EndsAt (s.DueAt c) (fun t => s.CmdFrame t ∧ s.HeaderFrame c t)
    (fun t => c = .sliceHeader ∧ s.StopFrame t ∧ s.HeaderFrame c t) s.StopFrame

theorem startCodeElem_element (c : Byte) : s.HeaderElement .startCode (startCodeElem c s) :=
  (startCodeElem_ends s c).mono (fun _ h => ⟨h.toCmdFrame, h.frame⟩) (fun _ _ h => h.elim) fun _ => id

theorem extensionSkipped_element (n : Nat) : s.HeaderElement .extId (extensionSkipped n s) := by
  unfold extensionSkipped
  split
  · rename_i m hm
    refine .inr ⟨⟨m, hm⟩, ?_, ⟨rfl, rfl, rfl, rfl, fun _ => ⟨rfl, rfl⟩, rfl, fun _ => ⟨rfl, rfl⟩, fun _ _ => rfl, fun _ _ _ => rfl⟩⟩
    exact (((s.consume_headerKeeps 4).trans (State.log_headerKeeps _ (e := .skippedExtension n (s.cmd.bp + 4)) (by simp))).trans
      (State.setCtx_headerKeeps _ (.startCode m))).toCmdFrame
  · rename_i h
    exact .inl ⟨fun ⟨m, hm⟩ => h m hm, rfl⟩

theorem extensionRead_element (fields : ScanMode → Ctx) : s.HeaderElement .extId (extensionRead fields s) := by
  unfold extensionRead
  split
  · rename_i m hm
    exact .inr ⟨⟨m, hm⟩, .of_eq rfl rfl rfl rfl (Nat.le_add_right _ _),
      ⟨rfl, rfl, rfl, rfl, fun _ => ⟨rfl, rfl⟩, rfl, fun _ => ⟨rfl, rfl⟩, fun _ _ => rfl, fun _ _ _ => rfl⟩⟩
  · rename_i h
    exact .inl ⟨fun ⟨m, hm⟩ => h m hm, rfl⟩

theorem quantMatrixId_element : s.HeaderElement .extId (quantMatrixId s) := by
  unfold quantMatrixId
  split
  · exact extensionRead_element s _
  · exact extensionSkipped_element s 3

theorem quantMatrixFields_element (a b c d : Option (List Byte)) :
    s.HeaderElement .quantMatrix (quantMatrixFields a b c d s) := by
  unfold quantMatrixFields
  split
  · rename_i m hm
    exact .inr ⟨⟨m, hm⟩, .of_eq rfl rfl rfl rfl (Nat.le_add_right _ _),
      ⟨rfl, rfl, rfl, rfl, fun _ => ⟨rfl, rfl⟩, rfl, fun _ => ⟨rfl, rfl⟩, fun _ h => absurd rfl h, fun _ _ _ => rfl⟩⟩
  · rename_i h
    exact .inl ⟨fun ⟨m, hm⟩ => h m hm, rfl⟩

theorem sequenceExtensionFields_element (pl : BitVec 8) (prog : Bool) (cf hx vx : BitVec 2) (bx : BitVec 12)
    (vbvx : BitVec 8) (ld : Bool) (fn : BitVec 2) (fd : BitVec 5) :
    s.HeaderElement .seqExt (sequenceExtensionFields pl prog cf hx vx bx vbvx ld fn fd s) := by
  unfold sequenceExtensionFields
  split
  · rename_i m hm
    refine .inr ⟨⟨m, hm⟩, ?_⟩
    dsimp only
    split_ifs
    · exact ⟨_, rfl, rfl, rfl, rfl, rfl, rfl, Nat.le_add_right _ _, fun _ h => h⟩
    · exact ⟨_, rfl, rfl, rfl, rfl, rfl, rfl, Nat.le_add_right _ _, fun _ h => h⟩
    · exact ⟨.of_eq rfl rfl rfl rfl (Nat.le_add_right _ _),
        ⟨rfl, rfl, rfl, rfl, fun _ => ⟨rfl, rfl⟩, rfl, fun _ => ⟨rfl, rfl⟩, fun h => absurd rfl h, fun _ _ _ => rfl⟩⟩
  · rename_i h
    exact .inl ⟨fun ⟨m, hm⟩ => h m hm, rfl⟩

theorem pictureCodingExtensionFields_element (f00 f01 f10 f11 : BitVec 4) (dcp ps : BitVec 2)
    (tff fpfd cmv qst ivf alt rff c420 pf : Bool) (cd : Option CompositeDisplay) :
    s.HeaderElement .picCodingExt
      (pictureCodingExtensionFields f00 f01 f10 f11 dcp ps tff fpfd cmv qst ivf alt rff c420 pf cd s) := by
  unfold pictureCodingExtensionFields
  split
  · rename_i m hm
    exact .inr ⟨⟨m, hm⟩, .of_eq rfl rfl rfl rfl (Nat.le_add_right _ _),
      ⟨rfl, rfl, rfl, rfl, fun _ => ⟨rfl, rfl⟩, rfl, fun _ => ⟨rfl, rfl⟩, fun _ _ => rfl, fun _ h => absurd rfl h⟩⟩
  · rename_i h
    exact .inl ⟨fun ⟨m, hm⟩ => h m hm, rfl⟩

theorem pictureHeaderFields_element (len : Nat) (tr : BitVec 10) (ct : BitVec 3) (vd : BitVec 16)
    (fields : PictureRegs → PictureRegs) (extra : List Byte) :
    s.HeaderElement .picHeader (pictureHeaderFields len tr ct vd fields extra s) := by
  unfold pictureHeaderFields
  split
  · exact .inr ⟨‹_›, .of_eq rfl rfl rfl rfl (Nat.le_add_right _ _),
      ⟨rfl, rfl, rfl, rfl, fun _ => ⟨rfl, rfl⟩, rfl, fun _ => ⟨rfl, rfl⟩, fun _ _ => rfl, fun _ _ h => absurd rfl h⟩⟩
  · exact .inl ⟨‹_›, rfl⟩

theorem gopFields_element : s.HeaderElement .gop (gopFields s) := by
  unfold gopFields
  split
  · exact .inr ⟨‹_›, .of_eq rfl rfl rfl rfl (Nat.le_refl _),
      ⟨rfl, rfl, rfl, rfl, fun _ => ⟨rfl, rfl⟩, rfl, fun _ => ⟨rfl, rfl⟩, fun _ _ => rfl, fun _ _ _ => rfl⟩⟩
  · exact .inl ⟨‹_›, rfl⟩

theorem sliceHeaderFields_element (q : BitVec 5) (rest : Nat) :
    s.HeaderElement .sliceHeader (sliceHeaderFields q rest s) := by
  unfold sliceHeaderFields
  split
  · refine .inr ⟨‹_›, ?_⟩
    split_ifs
    · exact ⟨rfl, ⟨rfl, rfl, rfl, rfl, rfl, Nat.le_add_right _ _, fun _ h => h⟩,
        ⟨rfl, rfl, rfl, rfl, fun h => absurd rfl h, rfl, fun _ => ⟨rfl, rfl⟩, fun _ _ => rfl, fun _ _ _ => rfl⟩⟩
    · exact ⟨.of_eq rfl rfl rfl rfl (Nat.le_add_right _ _),
        ⟨rfl, rfl, rfl, rfl, fun h => absurd rfl h, rfl, fun _ => ⟨rfl, rfl⟩, fun _ _ => rfl, fun _ _ _ => rfl⟩⟩
  · exact .inl ⟨‹_›, rfl⟩

/-- The sequence header, which alone writes the registers of 10_state.md §3 (R599). -/
theorem sequenceHeaderFields_ends (hs vs : BitVec 12) (ar fr : BitVec 4) (br : BitVec 18) (vbv : BitVec 10) (cp : Bool)
    (intra nonIntra : Option (List Byte)) :
    (sequenceHeaderFields hs vs ar fr br vbv cp intra nonIntra s).EndsAt (s.DueAt .seqHeader) s.CmdFrame (fun _ => False)
      s.StopFrame := by
  unfold sequenceHeaderFields
  split
  · refine .inr ⟨‹_›, ?_⟩
    dsimp only
    split_ifs
    · exact ⟨_, rfl, rfl, rfl, rfl, rfl, rfl, Nat.le_add_right _ _, fun _ h => h⟩
    · have h1 : s.CmdFrame ((s.sequenceFields ar fr br vbv cp intra nonIntra).onSeq fun r =>
          { r with horizontal_size_value := hs, vertical_size_value := vs }) :=
        .of_eq rfl rfl rfl rfl (Nat.le_add_right _ _)
      have halloc : ∀ (t : State) (ok : Bool), t.CmdFrame (afterAlloc (t.allocWith ok)) := by
        intro t ok
        unfold State.allocWith
        split_ifs
        · exact .of_eq rfl rfl rfl rfl (Nat.le_refl _)
        · exact .of_eq rfl rfl rfl rfl (Nat.le_refl _)
        · exact (((t.setPhase_headerKeeps _).trans (State.log_headerKeeps _ (by simp))).trans
            (State.finishDecode_headerKeeps _ _ _)).toCmdFrame
      exact h1.trans (halloc _ _)
  · exact .inl ⟨‹_›, rfl⟩

end

-- ---------------------------------------------------------------- every element

theorem Runs.headerElement {c : DecCtx} {f : State → Flow} (hf : Runs c f)
    (hc : c ∈ [DecCtx.startCode, .extId, .seqExt, .quantMatrix, .picCodingExt, .gop, .picHeader, .sliceHeader]) (s : State) :
    s.HeaderElement c (f s) := by
  cases hf with
  | startCode c => exact startCodeElem_element s c
  | extensionSkipped n => exact extensionSkipped_element s n
  | sequenceExtensionId => exact extensionRead_element s _
  | pictureCodingExtensionId => exact extensionRead_element s _
  | quantMatrixId => exact quantMatrixId_element s
  | sequenceExtension => exact sequenceExtensionFields_element ..
  | quantMatrix => exact quantMatrixFields_element ..
  | pictureCodingExtension => exact pictureCodingExtensionFields_element ..
  | gop => exact gopFields_element s
  | pictureHeader => exact pictureHeaderFields_element ..
  | sliceHeader => exact sliceHeaderFields_element ..
  | dcSize h => obtain rfl | rfl := h <;> simp at hc
  | mbType h | coefficient h | escape h | endOfBlock h => obtain rfl | rfl | rfl := h <;> simp at hc
  | _ => simp at hc

end Sys2Proof.Machine

namespace Sys2Proof

/-- The elements of a slice, from its header on. -/
def DecCtx.isSlice (c : DecCtx) : Bool := c == .sliceHeader || c == .mba || c.isMacroblock

end Sys2Proof

namespace Sys2Proof.Machine

/-- How an element ends: it goes on within the frame of every element, raises a Corrupt event inside a slice, or stops. -/
theorem Runs.ends {c : DecCtx} {f : State → Flow} (hf : Runs c f) (s : State) :
    (f s).EndsAt (s.DueAt c) s.CmdFrame (fun t => c.isSlice = true ∧ s.StopFrame t) s.StopFrame := by
  have header : c ∈ [DecCtx.startCode, .extId, .seqExt, .quantMatrix, .picCodingExt, .gop, .picHeader, .sliceHeader] →
      (f s).EndsAt (s.DueAt c) s.CmdFrame (fun t => c.isSlice = true ∧ s.StopFrame t) s.StopFrame := fun hc =>
    (hf.headerElement hc s).mono (fun _ h => h.1) (fun _ _ h => ⟨by rw [h.1]; rfl, h.2.1⟩) fun _ => id
  have macroblock : c.isMacroblock = true →
      (f s).EndsAt (s.DueAt c) s.CmdFrame (fun t => c.isSlice = true ∧ s.StopFrame t) s.StopFrame := fun hc =>
    (hf.mbElement hc s).mono (fun _ h => h.cmdFrame) (fun _ _ h => ⟨by simp [DecCtx.isSlice, hc], h.stopFrame⟩) fun _ h =>
      h.stopFrame
  cases c with
  | seqHeader =>
    cases hf with
    | sequenceHeader => exact (sequenceHeaderFields_ends s ..).mono (fun _ => id) (fun _ _ h => h.elim) fun _ => id
    | mbType h | dcSize h | coefficient h | escape h | endOfBlock h => simp at h
  | mba =>
    cases hf with
    | mba len v =>
      exact (mbaCode_leaves s len v).mono (fun _ h => h.1.cmdFrame) (fun _ _ h => ⟨rfl, h.1.stopFrame⟩) fun _ h =>
        h.1.stopFrame
    | mbaEscape len =>
      exact (mbaEscape_leaves s len fun _ => False).mono (fun _ h => h.cmdFrame) (fun _ _ h => ⟨rfl, h.stopFrame⟩)
        fun _ h => h.stopFrame
    | mbType h | dcSize h | coefficient h | escape h | endOfBlock h => simp at h
  | startCode | extId | seqExt | quantMatrix | picCodingExt | gop | picHeader | sliceHeader => exact header (by decide)
  | _ => exact macroblock rfl

/-- Every instruction stands in some context. -/
theorem exists_inCtx (i : Instr) : ∃ c, i.inCtx c = true := by
  cases i with
  | DCT0__0_1 | DCT0__1_1 | DCT0__0_2 | DCT0__2_1 | DCT0__0_3 | DCT0__4_1 | DCT0__3_1 | DCT0__7_1 | DCT0__6_1
  | DCT0__1_2
  | DCT0__5_1 | DCT0__2_2 | DCT0__9_1 | DCT0__0_4 | DCT0__8_1 | DCT0__13_1 | DCT0__0_6 | DCT0__12_1
  | DCT0__11_1 | DCT0__3_2 | DCT0__1_3 | DCT0__0_5 | DCT0__10_1 | DCT0__16_1 | DCT0__5_2 | DCT0__0_7
  | DCT0__2_3 | DCT0__1_4 | DCT0__15_1 | DCT0__14_1 | DCT0__4_2 | DCT0__0_11 | DCT0__8_2 | DCT0__4_3
  | DCT0__0_10 | DCT0__2_4 | DCT0__7_2 | DCT0__21_1 | DCT0__20_1 | DCT0__0_9 | DCT0__19_1 | DCT0__18_1
  | DCT0__1_5 | DCT0__3_3 | DCT0__0_8 | DCT0__6_2 | DCT0__17_1 | DCT0__10_2 | DCT0__9_2 | DCT0__5_3 | DCT0__3_4
  | DCT0__2_5 | DCT0__1_7 | DCT0__1_6 | DCT0__0_15 | DCT0__0_14 | DCT0__0_13 | DCT0__0_12 | DCT0__26_1
  | DCT0__25_1 | DCT0__24_1 | DCT0__23_1 | DCT0__22_1 | DCT0__0_31 | DCT0__0_30 | DCT0__0_29 | DCT0__0_28
  | DCT0__0_27 | DCT0__0_26 | DCT0__0_25 | DCT0__0_24 | DCT0__0_23 | DCT0__0_22 | DCT0__0_21 | DCT0__0_20
  | DCT0__0_19 | DCT0__0_18 | DCT0__0_17 | DCT0__0_16 | DCT0__0_40 | DCT0__0_39 | DCT0__0_38 | DCT0__0_37
  | DCT0__0_36 | DCT0__0_35 | DCT0__0_34 | DCT0__0_33 | DCT0__0_32 | DCT0__1_14 | DCT0__1_13 | DCT0__1_12
  | DCT0__1_11 | DCT0__1_10 | DCT0__1_9 | DCT0__1_8 | DCT0__1_18 | DCT0__1_17 | DCT0__1_16 | DCT0__1_15
  | DCT0__6_3 | DCT0__16_2 | DCT0__15_2 | DCT0__14_2 | DCT0__13_2 | DCT0__12_2 | DCT0__11_2 | DCT0__31_1
  | DCT0__30_1 | DCT0__29_1 | DCT0__28_1 | DCT0__27_1 | DCT0_ESC | DCT0_EOB => exact ⟨.dct0, rfl⟩
  | _ => exact ⟨_, beq_self_eq_true _⟩

theorem exec_ends (i : Instr) (s : State) : ∃ (c : DecCtx) (x : Flow), i.inCtx c = true ∧ exec i s = x.finish ∧
    x.EndsAt (s.DueAt c) s.CmdFrame (fun t => c.isSlice = true ∧ s.StopFrame t) s.StopFrame := by
  obtain ⟨c, hc⟩ := exists_inCtx i
  obtain ⟨f, hf, he⟩ := exec_runs hc
  exact ⟨c, f s, hc, he s, hf.ends s⟩

/-- Settles O56: an instruction goes on within the frame of every element, raises a Corrupt event, whose log entry and cursor
follow, or stops. -/
theorem commandStateFrame : Obligations.CommandStateFrame := by
  refine ⟨fun i s t hnext => ?_, fun i s t hstop => ?_⟩
  · obtain ⟨c, x, -, he, hx⟩ := exec_ends i s
    rw [he] at hnext
    obtain ⟨-, rfl⟩ | ⟨-, hends⟩ := hx
    · cases hnext
    · obtain rfl | ⟨k, u, rfl, rfl⟩ := Flow.finish_eq_next hnext
      · have h : s.CmdFrame t := hends
        obtain ⟨l, hl, -⟩ := h.log
        exact ⟨h.cfg, h.inbox, h.pkt, h.pts, h.cmdNo, ⟨l, hl⟩, h.outbox, .inl h.bp⟩
      · obtain ⟨-, h⟩ := hends
        have hpkt : u.cmd.pkt = s.cmd.pkt := by
          have := congrArg CommandState.pkt h.cmd
          exact this
        have hlen : u.bufLen = s.bufLen := by rw [State.bufLen, State.bufLen, hpkt]
        have hbp := hlen ▸ (takeCorrupt_bp k u).imp_left h.bp.trans
        have hpts := congrArg CommandState.pts h.cmd
        have hno := congrArg CommandState.cmdNo h.cmd
        have hlog := congrArg CommandState.errLog h.cmd
        obtain ⟨p, hp⟩ := takeCorrupt_eq k u
        rw [hp] at hbp ⊢
        exact ⟨h.cfg, h.inbox, hpkt, hpts, hno, ⟨[.corrupt k u.cmd.bp], congrArg (· ++ _) hlog⟩,
          ⟨[], h.outbox.trans (List.append_nil _).symm⟩, hbp⟩
  · obtain ⟨c, x, -, he, hx⟩ := exec_ends i s
    rw [he] at hstop
    have h : s.StopFrame t := by
      obtain ⟨f, rfl, hleft⟩ | ⟨r, rfl, hleft⟩ := stopsWith_finish hstop
      · obtain ⟨-, hout⟩ | ⟨-, u, hu, h⟩ := hx
        · cases hout
          cases hleft
        · rwa [Option.some.inj (hleft.symm.trans hu)]
      · obtain ⟨-, hout⟩ | ⟨-, u, hu, h⟩ := hx
        · cases hout
        · rwa [Option.some.inj (hleft.symm.trans hu)]
    have hpkt := congrArg CommandState.pkt h.cmd
    have hpts := congrArg CommandState.pts h.cmd
    have hno := congrArg CommandState.cmdNo h.cmd
    have hlog := congrArg CommandState.errLog h.cmd
    exact ⟨h.cfg, h.inbox, hpkt, hpts, hno, hlog, h.outbox, h.bp, h.written⟩

/-- Settles O57: the frame of each header element, which a Corrupt event of a slice header keeps. -/
theorem headerFrame : Obligations.HeaderFrame := by
  intro i s t c hc hi hnext
  obtain ⟨f, hf, he⟩ := exec_runs hi
  rw [he s] at hnext
  obtain ⟨-, hout⟩ | ⟨-, hends⟩ := hf.headerElement hc s
  · rw [hout] at hnext
    cases hnext
  · obtain hgo | ⟨k, u, hcorrupt, rfl⟩ := Flow.finish_eq_next hnext
    · rw [hgo] at hends
      obtain ⟨-, h⟩ := hends
      exact ⟨h.fb, h.allocated, h.auxIdx, h.mba, h.lower, h.mb, h.inst, h.seq, h.pic⟩
    · rw [hcorrupt] at hends
      obtain ⟨-, -, h⟩ := hends
      obtain ⟨p, hp⟩ := takeCorrupt_eq k u
      rw [hp]
      exact ⟨h.fb, h.allocated, h.auxIdx, h.mba, h.lower, h.mb, h.inst, h.seq, h.pic⟩

end Sys2Proof.Machine
end

section
/-! PROOFS. What every step does, from what it runs (O6, O7, O9, O13, O55). -/

namespace Sys2Proof.Machine

-- ---------------------------------------------------------------- the element due

/-- Settles O7: `fetchElement` raises the event, and a layout always decodes. -/
theorem stepInvalidCode : Obligations.StepInvalidCode := by
  refine ⟨fun s c hc hnone => ?_, fun s c _ ht => decode_isSome_of_layout ht _ _⟩
  have hne : c ≠ .startCode := by
    rintro rfl
    have := decode_isSome_of_layout (c := .startCode) rfl s.fetchBits s.chainFuel
    rw [hnone] at this
    cases this
  rw [step, State.fetch_element hc hne, State.fetchElement, State.fetchInstr, hnone]
  rfl

theorem State.fetchPos_eq (s : State) :
    ((∃ m, s.ctx = .seqExt m ∨ s.ctx = .quantMatrix m ∨ s.ctx = .picCodingExt m) → s.fetchPos = s.cmd.bp - 4) ∧
    ((∀ m, s.ctx ≠ .seqExt m ∧ s.ctx ≠ .quantMatrix m ∧ s.ctx ≠ .picCodingExt m) → s.fetchPos = s.cmd.bp) := by
  unfold State.fetchPos
  constructor
  · rintro ⟨m, h | h | h⟩ <;> rw [h]
  · intro h
    split
    · exact absurd ‹_› (h _).1
    · exact absurd ‹_› (h _).2.1
    · exact absurd ‹_› (h _).2.2
    · rfl

/-- Settles O6: `fetch` decodes in the context the place selects, at the place's position. -/
theorem stepRunsDecoded : Obligations.StepRunsDecoded := by
  refine ⟨fun s c i hctx hc hi => ?_, fun s m p i hm hp hi => ?_, fun s => ?_, fun s k => ?_, fun s => ?_⟩
  · have hne : c ≠ .startCode := by
      rintro rfl
      obtain ⟨m, hm⟩ := State.decCtx_eq_startCode.1 hc
      exact hctx m hm
    rw [step, State.fetch_element hc hne, State.fetchElement, State.fetchInstr, hi]
  · rw [step, (State.fetch_startCode hm).1 p hp, State.fetchElement, State.fetchInstr, hi]
    rfl
  · unfold State.decCtx
    refine ⟨fun h => by rw [h], fun m => ⟨fun h => by rw [h], fun h => by rw [h], fun h => by rw [h], fun h => by rw [h],
      fun h => by rw [h]⟩, ?_, fun r d h => by rw [h], fun r d t h => by rw [h], fun h => by rw [h, State.typeTable],
      fun b h => by rw [h], fun b n h => by rw [h], fun b first h => ?_⟩
    · repeat (refine List.forall_mem_cons.2 ⟨fun h => by rw [h], ?_⟩)
      exact List.forall_mem_nil _
    · rw [h]
      dsimp only [State.dctTable]
      refine ⟨fun hi hv hc => ?_, fun hi hv => ?_, fun hi => ?_⟩
      · simp [hi, hv, hc]
      · obtain hv | hc := hv
        · simp [hi, hv]
        · simp [hi, hc]
      · simp [hi]
  · obtain ⟨hext, hother⟩ := s.fetchPos_eq
    unfold State.fetchBits
    exact ⟨fun h => by rw [hext h], fun h => by rw [hother h]⟩
  · unfold State.chainFuel State.bufBits
    omega

-- ---------------------------------------------------------------- the flow of a step

/-- A step of the idle core goes on, or refuses a read. -/
theorem State.hostStep_cases (s : State) : (∃ t, s.hostStep = .go t) ∨ s.hostStep = .refuse .illegalHostRead := by
  unfold State.hostStep
  cases s.inbox with
  | nil => exact .inl ⟨_, rfl⟩
  | cons c rest =>
    cases c with
    | create | decode | lookup => exact .inl ⟨_, rfl⟩
    | slotRead k =>
      dsimp only [State.runCommand]
      split
      · exact .inl ⟨_, rfl⟩
      · exact .inr rfl
    | slotSample k c x y =>
      dsimp only [State.runCommand]
      split
      · split
        · exact .inl ⟨_, rfl⟩
        · exact .inr rfl
      · exact .inr rfl

theorem State.endOfBuffer_ends (s : State) (m : ScanMode) :
    (s.endOfBuffer m).Ends s.HeaderKeeps (fun _ => False) s.StopFrame := by
  cases m with
  | top => exact s.finishDecode_headerKeeps _ _
  | picExt => exact s.afterExtensions_ends none
  | slices => exact s.finishPicture_headerKeeps false
  | skipSlices => exact (s.setPhase_headerKeeps _).trans (State.finishDecode_headerKeeps _ _ _)

/-- Settles O9: an element is due where its context is the one decoded in, and the idle core raises no fault. -/
theorem stepInContext : Obligations.StepInContext := by
  intro s hfault
  obtain ⟨x, hx, he⟩ := step_flow s
  rw [he] at hfault
  have hx' : x = .fault .outOfContext := by
    cases x with
    | fault f =>
      cases hfault
      rfl
    | go | corrupt | refuse => cases hfault
  cases hx with
  | host h =>
    obtain ⟨t, ht⟩ | ht := s.hostStep_cases <;> rw [ht] at hx' <;> cases hx'
  | element hc hne hf =>
    obtain ⟨hdue, -⟩ | ⟨-, hends⟩ := hf.ends s
    · exact hdue (State.dueAt_of_decCtx hc)
    · rw [hx'] at hends
      obtain ⟨t, ht, -⟩ := hends
      cases ht
  | invalidCode => cases hx'
  | @startCode m h p hp c =>
    obtain ⟨hdue, -⟩ | ⟨-, hends⟩ := startCodeElem_ends (s.setBp p) c
    · exact hdue ⟨_, h⟩
    · rw [hx'] at hends
      obtain ⟨t, ht, -⟩ := hends
      cases ht
  | @endOfBuffer m h hn =>
    have hends := (s.setBp s.bufBits).endOfBuffer_ends m
    rw [hx'] at hends
    obtain ⟨t, ht, -⟩ := hends
    cases ht

-- ---------------------------------------------------------------- Corrupt events

/-- The log after a step that goes on: it is emptied by the host's commands, else it grows by no Corrupt event. -/
def State.LogKept (s t : State) : Prop :=
  t.cmd.errLog = [] ∨ ∃ l, t.cmd.errLog = s.cmd.errLog ++ l ∧ NoCorrupt l

theorem State.hostStep_log {s t : State} (h : s.hostStep = .go t) : s.LogKept t := by
  have same : ∀ {u : State}, u.cmd = s.cmd → s.LogKept u := fun hu =>
    .inr ⟨[], by rw [hu, List.append_nil], .nil⟩
  unfold State.hostStep at h
  cases hin : s.inbox with
  | nil =>
    rw [hin] at h
    cases h
    exact same rfl
  | cons c rest =>
    rw [hin] at h
    cases c with
    | create =>
      cases h
      exact .inl rfl
    | decode buf pts =>
      cases h
      refine .inl ?_
      unfold State.startDecode
      dsimp only
      split_ifs <;> rfl
    | lookup q =>
      cases h
      exact same rfl
    | slotRead k =>
      dsimp only [State.runCommand] at h
      split at h
      · cases h
        exact same rfl
      · cases h
    | slotSample k c x y =>
      dsimp only [State.runCommand] at h
      split at h
      · split at h
        · cases h
          exact same rfl
        · cases h
      · cases h

theorem State.CmdFrame.logKept {s t : State} (h : s.CmdFrame t) : s.LogKept t := .inr h.log

/-- What a step runs logs no Corrupt event, or raises one inside a slice with the log and the phase as they were. -/
theorem StepFlow.log {s : State} {x : Flow} (hx : StepFlow s x) :
    (∀ t, x = .go t → s.LogKept t) ∧ ∀ k t, x = .corrupt k t → s.ctx.inSlice = true ∧ s.StopFrame t := by
  have header : ∀ {y : Flow} {p : Nat} {P : State → Prop}, s.cmd.bp ≤ p ∨ p = s.bufBits →
      y.Ends (s.setBp p).HeaderKeeps (fun _ => False) P →
      (∀ t, y = .go t → s.LogKept t) ∧ ∀ k t, y = .corrupt k t → s.ctx.inSlice = true ∧ s.StopFrame t := by
    intro y p P _ hy
    refine ⟨fun t ht => ?_, fun k t ht => ?_⟩
    · rw [ht] at hy
      have h : (s.setBp p).HeaderKeeps t := hy
      exact .inr h.log
    · rw [ht] at hy
      exact hy.elim
  cases hx with
  | host h =>
    refine ⟨fun t ht => State.hostStep_log ht, fun k t ht => ?_⟩
    obtain ⟨u, hu⟩ | hu := s.hostStep_cases <;> rw [hu] at ht <;> cases ht
  | @element c f hc hne hf =>
    have hdue := State.dueAt_of_decCtx hc
    obtain ⟨hnot, -⟩ | ⟨-, hends⟩ := hf.ends s
    · exact absurd hdue hnot
    · refine ⟨fun t ht => ?_, fun k t ht => ?_⟩
      · rw [ht] at hends
        exact State.CmdFrame.logKept hends
      · rw [ht] at hends
        obtain ⟨hslice, hstop⟩ := hends
        refine ⟨?_, hstop⟩
        cases c with
        | sliceHeader => rw [show s.ctx = .sliceHeader from hdue]; rfl
        | mba => obtain ⟨first, h⟩ := hdue; rw [h]; rfl
        | mbTypeI | mbTypeP | mbTypeB => rw [show s.ctx = .mbType from hdue]; rfl
        | frameMotionType => rw [show s.ctx = .frameMotionType from hdue]; rfl
        | dctType => rw [show s.ctx = .dctType from hdue]; rfl
        | mbQuant => rw [show s.ctx = .mbQuant from hdue]; rfl
        | fieldSelect => obtain ⟨r, d, h⟩ := hdue; rw [h]; rfl
        | mv => obtain ⟨r, d, t, h⟩ := hdue; rw [h]; rfl
        | marker => rw [show s.ctx = .marker from hdue]; rfl
        | cbp => rw [show s.ctx = .cbp from hdue]; rfl
        | dcl | dcc | dcDiff => obtain ⟨i, h⟩ := hdue; rw [h]; rfl
        | dct0 | dct0First | dct1 => obtain ⟨i, first, h⟩ := hdue; rw [h]; rfl
        | startCode | extId | seqHeader | seqExt | quantMatrix | picCodingExt | gop | picHeader => cases hslice
  | @invalidCode c hc ht =>
    refine ⟨fun t h => (by cases h), fun k t h => ?_⟩
    cases h
    exact ⟨State.ctx_inSlice_of_table hc ht, State.Keeps.stopFrame (c := c) (A := fun _ => False) (.refl s)⟩
  | @startCode m h p hp c =>
    obtain ⟨hnot, -⟩ | ⟨-, hends⟩ := startCodeElem_ends (s.setBp p) c
    · exact absurd ⟨_, h⟩ hnot
    · exact header (.inl hp.2.1) hends
  | endOfBuffer h hn => exact header (.inr rfl) ((s.setBp s.bufBits).endOfBuffer_ends _)

/-- Settles O13: no flow that goes on logs a Corrupt event, and one that raises it stands in a slice. -/
theorem corruptOnlyInSlices : Obligations.CorruptOnlyInSlices := by
  intro s t c p hstep hlog
  obtain ⟨x, hx, he⟩ := step_flow s
  obtain ⟨hgo, hcorrupt⟩ := hx.log
  rw [he] at hstep
  obtain rfl | ⟨k, u, rfl, rfl⟩ := Flow.finish_eq_next hstep
  · exfalso
    obtain hnil | ⟨l, hl, hno⟩ := hgo t rfl
    · rw [hnil] at hlog
      exact List.append_ne_nil_of_right_ne_nil _ (List.cons_ne_nil _ _) hlog.symm
    · rw [hlog, List.append_cancel_left_eq] at hl
      exact hno c p (hl ▸ List.mem_singleton.2 rfl)
  · obtain ⟨hslice, hstop⟩ := hcorrupt k u rfl
    have hlog' : u.cmd.errLog = s.cmd.errLog := by
      have := congrArg CommandState.errLog hstop.cmd
      exact this
    obtain ⟨q, hq⟩ := takeCorrupt_eq k u
    rw [hq] at hlog ⊢
    refine ⟨hslice, rfl, hstop.phase, ?_⟩
    simp only [hlog', List.append_cancel_left_eq, List.cons.injEq, LogEntry.corrupt.injEq, and_true] at hlog
    exact hlog.2 ▸ hstop.bp

-- ---------------------------------------------------------------- a failed core

/-- A failed core is idle (R675). -/
theorem State.Inv.idle_of_failed {s : State} (h : s.Inv) (hf : s.inst.phase = .failed) : s.ctx = .idle := by
  have hplaced := h.2
  by_contra hne
  by_cases hslice : s.ctx.inSlice = true
  · have := hplaced.phase_of_inSlice hslice
    rw [hf] at this
    cases this
  · unfold State.Placed at hplaced
    cases hx : s.ctx with
    | idle => exact hne hx
    | startCode m => cases m <;> simp [hx, hf] at hplaced
    | extId | seqExt | quantMatrix | picCodingExt | seqHeader | gop | picHeader => simp [hx, hf] at hplaced
    | _ => exact hslice (by rw [hx]; rfl)

/-- Settles O55: a failed core is idle, and no command but `create` changes the phase of one. -/
theorem failedIsFinal : Obligations.FailedIsFinal := by
  intro s t hinv hf hcreate hstep
  have hidle := hinv.idle_of_failed hf
  rw [step, State.fetch_idle hidle] at hstep
  dsimp only at hstep
  unfold State.hostStep at hstep
  cases hin : s.inbox with
  | nil =>
    rw [hin] at hstep
    cases hstep
    exact hf
  | cons c rest =>
    rw [hin] at hstep
    cases c with
    | create => exact absurd (by rw [hin]; rfl) hcreate
    | decode buf pts =>
      cases hstep
      unfold State.startDecode
      dsimp only
      rw [if_pos hf]
      exact hf
    | lookup q =>
      cases hstep
      exact hf
    | slotRead k =>
      dsimp only [State.runCommand] at hstep
      split at hstep
      · cases hstep
        exact hf
      · cases hstep
    | slotSample k c x y =>
      dsimp only [State.runCommand] at hstep
      split at hstep
      · split at hstep
        · cases hstep
          exact hf
        · cases hstep
      · cases hstep

end Sys2Proof.Machine
end

section
/-! PROOFS. Arithmetic of the operands and of the inverse transforms (O40 to O43). -/

namespace Sys2Proof.Machine

-- ---------------------------------------------------------------- coefficient control

/-- Settles O40: the saturated block, whose last coefficient moves by one, within the range, where the sum is even. -/
theorem coefficientControl : Obligations.CoefficientControl := by
  intro b hb
  obtain ⟨sat, hc⟩ : ∃ sat, sat = b.map (clampInt (-2048) 2047) := ⟨_, rfl⟩
  have hlen : sat.length = 64 := by rw [hc, List.length_map, hb]
  have hget : ∀ j, j < 64 → sat.getD j 0 = max (-2048) (min 2047 (b.getD j 0)) := by
    intro j hj
    rw [List.getD_eq_getElem _ _ (by omega), List.getD_eq_getElem _ _ (by omega)]
    simp only [hc, List.getElem_map, clampInt]
    omega
  have hmem : ∀ v ∈ sat, -2048 ≤ v ∧ v ≤ 2047 := by
    intro v hv
    rw [hc] at hv
    obtain ⟨w, -, rfl⟩ := List.mem_map.1 hv
    unfold clampInt
    omega
  obtain ⟨v, hv⟩ : ∃ v, v = sat.getD 63 0 := ⟨_, rfl⟩
  have h63 : 63 < sat.length := by omega
  have hlast : sat[63] = v := by rw [hv, List.getD_eq_getElem _ _ h63]
  have hrange := hmem v (hlast ▸ List.getElem_mem _)
  have hsum : ∀ w, (sat.set 63 w).sum = sat.sum - v + w := by
    intro w
    rw [List.sum_set', dif_pos h63, hlast]
    omega
  unfold coefControlIso
  rw [← hc]
  dsimp only
  rw [← hv, ← hget 63 (by omega), ← hv]
  by_cases hsumEven : sat.sum % 2 = 0
  · rw [if_pos hsumEven]
    obtain ⟨w, hw⟩ : ∃ w, w = if v % 2 = 0 then v + 1 else v - 1 := ⟨_, rfl⟩
    rw [← hw]
    have hstep : w % 2 ≠ v % 2 ∧ (w - v).natAbs ≤ 1 ∧ -2048 ≤ w ∧ w ≤ 2047 := by
      rw [hw]
      split_ifs <;> omega
    obtain ⟨hparity, hclose, hwlo, hwhi⟩ := hstep
    refine ⟨by rw [List.length_set, hlen], ?_, fun x hx => ?_, fun j hj => ?_, ?_⟩
    · rw [hsum]
      omega
    · obtain hx | rfl := List.mem_or_eq_of_mem_set hx
      · exact hmem x hx
      · exact ⟨hwlo, hwhi⟩
    · rw [List.getD_eq_getElem?_getD, List.getElem?_set_ne (by omega), ← List.getD_eq_getElem?_getD]
      exact hget j (by omega)
    · rw [List.getD_eq_getElem _ _ (by rw [List.length_set]; exact h63), List.getElem_set_self]
      exact hclose
  · rw [if_neg hsumEven]
    exact ⟨hlen, by omega, hmem, fun j hj => hget j (by omega), by rw [← hv]; omega⟩

/-- Settles O41: the size class of `d` holds its magnitude, and `v` is `d` or its one's complement in the class. -/
theorem dcRoundTrip : Obligations.DcRoundTrip := by
  intro d hd hmax size v
  have hpos : 0 < size := Nat.size_pos.2 (by omega)
  have hlow : 2 ^ (size - 1) ≤ d.natAbs := Nat.lt_size.1 (by omega)
  have hhigh : d.natAbs < 2 ^ size := Nat.lt_size_self _
  have h11 : size ≤ 11 := Nat.size_le.2 (by omega)
  have hp : (2 : Nat) ^ size = 2 * 2 ^ (size - 1) := by rw [← Nat.pow_succ', Nat.succ_eq_add_one, Nat.sub_add_cancel hpos]
  have hv : v = (if 0 ≤ d then d else d + 2 ^ size - 1).toNat := rfl
  have hcast : ((2 : Int) ^ size) = ((2 ^ size : Nat) : Int) := by push_cast; rfl
  clear_value size v
  rw [hcast] at hv
  refine ⟨hpos, h11, ?_, ?_, ?_⟩
  · split_ifs at hv <;> omega
  · split_ifs at hv <;> omega
  · rw [dcValue, if_neg (by omega), hcast]
    split_ifs at hv ⊢ <;> omega

/-- Settles O42: the delta is at most `lim` in magnitude, so one wrap by `2 * lim` brings the sum back into range. -/
theorem vectorWrapsIntoRange : Obligations.VectorWrapsIntoRange := by
  intro pred code res rs lim delta hlo hhi hc0 hc1 hres
  have hres' : (res : Int) + 1 ≤ 2 ^ rs := by exact_mod_cast hres
  have hp : (0 : Int) < 2 ^ rs := by positivity
  unfold decodeVector
  dsimp only [lim, delta] at *
  generalize (2 : Int) ^ rs = p at *
  simp only [Bool.false_eq_true, if_false]
  obtain hneg | rfl | hpos := Int.lt_trichotomy code 0
  · have hm0 : 0 ≤ (-code - 1) * p := mul_nonneg (by omega) (by omega)
    have hm1 : (-code - 1) * p ≤ 15 * p := mul_le_mul_of_nonneg_right (by omega) (by omega)
    simp only [show ¬ 0 < code by omega, show code ≠ 0 by omega, hneg, if_true, if_false]
    generalize (-code - 1) * p = m at *
    split_ifs with hwrap
    · exact ⟨by omega, by omega, ⟨1, by ring⟩⟩
    · exact ⟨by omega, by omega, ⟨0, by ring⟩⟩
  · simp only [lt_irrefl, if_true, if_false]
    exact ⟨by omega, by omega, ⟨0, by ring⟩⟩
  · have hm0 : 0 ≤ (code - 1) * p := mul_nonneg (by omega) (by omega)
    have hm1 : (code - 1) * p ≤ 15 * p := mul_le_mul_of_nonneg_right (by omega) (by omega)
    simp only [show code ≠ 0 by omega, hpos, if_true, if_false]
    generalize (code - 1) * p = m at *
    split_ifs with hwrap
    · exact ⟨by omega, by omega, ⟨-1, by ring⟩⟩
    · exact ⟨by omega, by omega, ⟨0, by ring⟩⟩

-- ---------------------------------------------------------------- the inverse transforms

theorem clampInt_bounds (v : Int) : -256 ≤ clampInt (-256) 255 v ∧ clampInt (-256) 255 v ≤ 255 := by
  unfold clampInt
  omega

/-- Every residual is clamped (R505). -/
theorem refIdct_bounds {b : List Int} {v : Int} (h : v ∈ refIdct b) : -256 ≤ v ∧ v ≤ 255 := by
  obtain ⟨j, -, rfl⟩ := List.mem_map.1 h
  unfold roundClamp
  split_ifs <;> exact clampInt_bounds _

theorem srcIdct_bounds {b : List Int} {v : Int} (h : v ∈ srcIdct b) : -256 ≤ v ∧ v ≤ 255 := by
  obtain ⟨j, -, rfl⟩ := List.mem_map.1 h
  split_ifs with hdc
  · simp only [Bool.and_eq_true, decide_eq_true_eq] at hdc
    omega
  · exact clampInt_bounds _

theorem dc_getD (d : Int) (n : Nat) : (d :: List.replicate 63 0).getD n 0 = if n = 0 then d else 0 := by
  cases n with
  | zero => rfl
  | succ n =>
    rw [List.getD_cons_succ, if_neg (Nat.succ_ne_zero n), List.getD_eq_getElem?_getD, List.getElem?_replicate]
    split <;> rfl

theorem dc_getD_pos (d : Int) {n : Nat} (hn : n ≠ 0) : (d :: List.replicate 63 0).getD n 0 = 0 := by
  rw [dc_getD, if_neg hn]

/-- An eighth, rounded half away from zero (R504). -/
theorem round_eighth (d : Int) :
    (if 0 ≤ (d : ℝ) / 8 then ⌊(d : ℝ) / 8 + 1 / 2⌋ else -⌊-((d : ℝ) / 8) + 1 / 2⌋) =
      d.sign * (((d.natAbs + 4) / 8 : Nat) : Int) := by
  have floor : ∀ n : Int, ⌊(n : ℝ) / 8 + 1 / 2⌋ = (n + 4) / 8 := by
    intro n
    rw [show (n : ℝ) / 8 + 1 / 2 = ((n + 4 : Int) : ℝ) / ((8 : Nat) : ℝ) by push_cast; ring, Int.floor_div_natCast,
      Int.floor_intCast]
    rfl
  obtain hneg | rfl | hpos := Int.lt_trichotomy d 0
  · have hreal : (d : ℝ) < 0 := by exact_mod_cast hneg
    rw [if_neg (by linarith), Int.sign_eq_neg_one_of_neg hneg, ← neg_div, ← Int.cast_neg, floor]
    omega
  · norm_num
  · have hreal : (0 : ℝ) < d := by exact_mod_cast hpos
    rw [if_pos (by linarith), Int.sign_eq_one_of_pos hpos, floor]
    omega

/-- Of the sum of R501 only the first term is left, with both cosines 1 (R504). -/
theorem dc_sum (d : Int) (x y : Nat) :
    ∑ u ∈ Finset.range 8, ∑ v ∈ Finset.range 8,
      ((if u = 0 then 1 / Real.sqrt 2 else 1) * (if v = 0 then 1 / Real.sqrt 2 else 1) / 4) *
        (((d :: List.replicate 63 0).getD (8 * v + u) 0 : Int) : ℝ) *
        Real.cos ((2 * x + 1) * u * Real.pi / 16) * Real.cos ((2 * y + 1) * v * Real.pi / 16) = (d : ℝ) / 8 := by
  have hsqrt : (1 / Real.sqrt 2) * (1 / Real.sqrt 2) = 1 / 2 := by
    rw [div_mul_div_comm, one_mul, Real.mul_self_sqrt (by norm_num)]
  rw [Finset.sum_eq_single 0, Finset.sum_eq_single 0]
  · simp only [if_true, hsqrt, dc_getD, Nat.cast_zero, mul_zero, zero_mul, zero_div, Real.cos_zero]
    ring
  · intro v _ hv
    rw [dc_getD_pos d (by omega), Int.cast_zero, mul_zero, zero_mul, zero_mul]
  · simp
  · intro u _ hu
    refine Finset.sum_eq_zero fun v _ => ?_
    rw [dc_getD_pos d (by omega), Int.cast_zero, mul_zero, zero_mul, zero_mul]
  · simp

/-- The reference transform of a block with a first coefficient alone (R501, R504). -/
theorem refIdct_dc (d : Int) : refIdct (d :: List.replicate 63 0) =
    List.replicate 64 (max (-256) (min 255 (d.sign * (((d.natAbs + 4) / 8 : Nat) : Int)))) := by
  have hlen : (refIdct (d :: List.replicate 63 0)).length = 64 := idct_length .refIdct _
  refine List.ext_getElem (by rw [hlen, List.length_replicate]) fun j hj _ => ?_
  rw [hlen] at hj
  have hexact := referenceTransformIsExact (d :: List.replicate 63 0) (j % 8) (j / 8) rfl (by omega) (by omega)
  rw [show 8 * (j / 8) + j % 8 = j by omega, List.getD_eq_getElem _ _ (by rw [hlen]; exact hj)] at hexact
  rw [List.getElem_replicate, hexact, dc_sum, round_eighth]

/-- Settles O43: the clamps give the range, `refIdct_dc` the reference transform of a DC-only block, and SRC_IDCT has its value
there by definition (log entry 9). -/
theorem inverseTransformProperties : Obligations.InverseTransformProperties := by
  intro k b hb
  have hdc : ∀ d : Int, b = d :: List.replicate 63 0 → d % 8 = 0 → d.natAbs ≤ 2040 → idct k b = List.replicate 64 (d / 8) := by
    rintro d rfl h8 hmax
    cases k with
    | refIdct =>
      rw [idct, refIdct_dc]
      congr 1
      obtain hneg | rfl | hpos := Int.lt_trichotomy d 0
      · rw [Int.sign_eq_neg_one_of_neg hneg]
        omega
      · rfl
      · rw [Int.sign_eq_one_of_pos hpos]
        omega
    | srcIdct =>
      have hcond : (dcOnly (d :: List.replicate 63 0) && decide (d % 8 = 0) && decide (d.natAbs ≤ 2040)) = true := by
        simp [dcOnly, h8, hmax]
      simp only [idct, srcIdct, List.getD_cons_zero, hcond, if_true, List.map_const', List.length_range]
  refine ⟨idct_length k b, fun v hv => ?_, fun hzero => hdc 0 hzero rfl (Nat.zero_le _), hdc, fun d hd => hd ▸ refIdct_dc d⟩
  cases k with
  | refIdct => exact refIdct_bounds hv
  | srcIdct => exact srcIdct_bounds hv

end Sys2Proof.Machine
end

section
/-! PROOFS. Predictions (R530 to R538): the samples each vector chooses in each plane, and that the prediction of a
macroblock reads no sample of the buffer it is written to. -/

namespace Sys2Proof.Machine

-- ---------------------------------------------------------------- sequences of reads

theorem readBind_ok {α β : Type} {r : Except ReadFault α} {k : α → Except ReadFault β} {b : β} (h : r >>= k = .ok b) :
    ∃ a, r = .ok a ∧ k a = .ok b := by
  cases r with
  | error e => cases h
  | ok a => exact ⟨a, rfl, h⟩

-- ---------------------------------------------------------------- the buffers a prediction reads (R531, R602)

section Congruence
variable {s t : State} {ref : Fin 3}

/-- The registers a prediction depends on. -/
def State.predRegs (s : State) :
    SequenceRegs × PictureRegs × Nat × Pair (Pair (Pair Int)) × Pair (Pair Bool) × MbFlags × MotionType × Fin 3 × Fin 3 :=
  (s.seq, s.pic, s.slc.mba, s.slc.pmv, s.slc.mvfs, s.mb.mbType, s.mb.motionType, s.inst.fwdIdx, s.inst.bwdIdx)

theorem State.predSample_congr (hr : t.planeRead ref = s.planeRead ref) (c : Plane) (r : PredMode) (x y : Int)
    (hx hy : Bool) : t.predSample ref c r x y hx hy = s.predSample ref c r x y hx hy := by
  simp only [State.predSample, State.refRead, hr]

theorem State.predTriple_congr (hr : t.planeRead ref = s.planeRead ref) (hx : t.mbx = s.mbx) (lh bly : Nat)
    (vx vy : Int) (r : PredMode) : t.predTriple ref lh bly vx vy r = s.predTriple ref lh bly vx vy r := by
  simp only [State.predTriple, State.predBlock, State.predSample_congr hr, hx]

/-- A direction depends on its registers and on the samples of its reference. -/
theorem State.predictDirection_congr (he : t.predRegs = s.predRegs) (hr : t.planeRead ref = s.planeRead ref) (d : Bool) :
    t.predictDirection d ref = s.predictDirection d ref := by
  simp only [State.predRegs, Prod.mk.injEq] at he
  obtain ⟨hseq, -, hmba, hpmv, hmvfs, -, hmotion, -, -⟩ := he
  have hw : t.mbWidth = s.mbWidth := by rw [State.mbWidth, State.width, hseq]; rfl
  have hx : t.mbx = s.mbx := by rw [State.mbx, hmba, hw]; rfl
  have hy : t.mby = s.mby := by rw [State.mby, hmba, hw]; rfl
  simp only [State.predictDirection, State.predTriple_congr hr hx, hy, SliceRegs.pmvAt, hpmv, hmvfs, hmotion]

/-- A prediction depends on its registers, the forward reference, and the backward one where the macroblock has that
direction. -/
theorem State.prediction_congr (he : t.predRegs = s.predRegs)
    (hf : t.planeRead s.inst.fwdIdx = s.planeRead s.inst.fwdIdx)
    (hb : s.mb.mbType.b = true → t.planeRead s.inst.bwdIdx = s.planeRead s.inst.bwdIdx) :
    t.prediction = s.prediction := by
  have hfwd := State.predictDirection_congr he hf false
  have hbwd := fun h => State.predictDirection_congr he (hb h) true
  simp only [State.predRegs, Prod.mk.injEq] at he
  obtain ⟨-, hpic, -, -, -, htype, -, hfi, hbi⟩ := he
  simp only [State.prediction, State.formPredictions, State.predictsForward, hpic, htype, hfi, hbi, hfwd]
  cases hbit : s.mb.mbType.b with
  | false => simp only [Bool.false_eq_true, if_false]
  | true => simp only [hbwd hbit]

end Congruence

section CurrentBuffer
variable {s : State} {m : Memory} {ref : Fin 3}

/-- The state with another sample memory. -/
def State.withMemory (s : State) (m : Memory) : State := { s with inst := { s.inst with fb := m } }

/-- Every sample of buffer `b` is in the memory `m` what it is in `s`. -/
def State.SameBuffer (s : State) (m : Memory) (b : Fin 3) : Prop :=
  ∀ c x y, x < s.planeWidth c → y < s.planeHeight c → m.read (s.addr b c x y) = s.sample b c x y

theorem State.SameBuffer.planeRead (h : s.SameBuffer m ref) : (s.withMemory m).planeRead ref = s.planeRead ref := by
  funext c x y
  by_cases hin : 0 ≤ x ∧ x < s.planeWidth c ∧ 0 ≤ y ∧ y < s.planeHeight c
  · have hs : (s.withMemory m).sample ref c x.toNat y.toNat = s.sample ref c x.toNat y.toNat :=
      h c _ _ (by omega) (by omega)
    simp only [State.planeRead, hs]
    rfl
  · rw [State.planeRead_outside hin]
    exact State.planeRead_outside (s := s.withMemory m) hin

theorem State.prediction_withMemory (hf : s.SameBuffer m s.inst.fwdIdx)
    (hb : s.mb.mbType.b = true → s.SameBuffer m s.inst.bwdIdx) : (s.withMemory m).prediction = s.prediction :=
  State.prediction_congr rfl hf.planeRead fun h => (hb h).planeRead

end CurrentBuffer

/-- In a B picture the current buffer is the auxiliary one, so it is not the backward reference (R53, R601). -/
theorem State.Legal.bwdIdx_ne_curIdx {s : State} (h : s.Legal) (hp : s.inst.phase = .decodingSlices)
    (h3 : s.pic.picture_coding_type = 3) : s.inst.bwdIdx ≠ s.inst.curIdx := by
  obtain ⟨haux, hroles, -⟩ := h.roles
  obtain ⟨-, -, hcur⟩ := h.picture hp
  rw [hcur, if_pos h3, haux]
  obtain ⟨-, hb⟩ | ⟨-, hb⟩ := hroles <;> rw [hb] <;> decide

/-- Settles O54: neither reference that is read is the current buffer. -/
theorem predictionIgnoresCurrentBuffer : Obligations.PredictionIgnoresCurrentBuffer := by
  intro s m hl hp htype hsame
  refine State.prediction_withMemory (fun c x y => hsame _ c x y hl.roles.2.2.symm) fun hb c x y => ?_
  exact hsame _ c x y (hl.bwdIdx_ne_curIdx hp (htype hb))

-- ---------------------------------------------------------------- the blocks of a vector (R533)

section Triple
variable {s : State} {ref : Fin 3} {lh bly : Nat} {vx vy : Int} {m : PredMode}

/-- A luma height or position in plane `c`: half of it for chroma. -/
def planeShare (c : Plane) (k : Nat) : Nat := if c = .y then k else k / 2

/-- A vector component in plane `c` (R538). -/
def planeComponent (c : Plane) (v : Int) : Int := if c = .y then v else chromaComponent v

/-- The block of plane `c` that one vector gives. -/
def State.planeBlock (s : State) (ref : Fin 3) (lh bly : Nat) (vx vy : Int) (m : PredMode) (c : Plane) :
    Except ReadFault (List Nat) :=
  s.predBlock ref c (mbPlaneWidth c) (planeShare c lh) (mbPlaneWidth c * s.mbx) (planeShare c bly) (planeComponent c vx)
    (planeComponent c vy) m

theorem State.predTriple_ok {p : Triple (List Nat)} (h : s.predTriple ref lh bly vx vy m = .ok p) (c : Plane) :
    s.planeBlock ref lh bly vx vy m c = .ok (p.get c) := by
  obtain ⟨y, hy, h⟩ := readBind_ok h
  obtain ⟨cb, hcb, h⟩ := readBind_ok h
  obtain ⟨cr, hcr, h⟩ := readBind_ok h
  cases h
  cases c with
  | y => exact hy
  | cb => exact hcb
  | cr => exact hcr

theorem State.predTriple_error {e : ReadFault} (h : s.predTriple ref lh bly vx vy m = .error e) :
    ∃ c, s.planeBlock ref lh bly vx vy m c = .error e := by
  obtain h | ⟨_, h⟩ := readBind_error h
  · exact ⟨.y, h⟩
  obtain h | ⟨_, h⟩ := readBind_error h
  · exact ⟨.cb, h⟩
  · exact ⟨.cr, readBind_pure_error h⟩

/-- The sample that one vector chooses at a row of its blocks and a column of the macroblock (R535, R538). -/
def State.vectorSample (s : State) (ref : Fin 3) (bly : Nat) (vx vy : Int) (m : PredMode) (c : Plane) (yy col : Nat) :
    Except ReadFault Nat :=
  s.predSample ref c m ((mbPlaneWidth c * s.mbx + col : Nat) + planeComponent c vx / 2)
    ((planeShare c bly + yy : Nat) + planeComponent c vy / 2) (decide (planeComponent c vx % 2 = 1))
    (decide (planeComponent c vy % 2 = 1))

theorem State.vectorSample_ok {p : Triple (List Nat)} (h : s.predTriple ref lh bly vx vy m = .ok p) {c : Plane}
    {yy col : Nat} (hyy : yy < planeShare c lh) (hcol : col < mbPlaneWidth c) :
    s.vectorSample ref bly vx vy m c yy col = .ok ((p.get c).getD (yy * mbPlaneWidth c + col) 0) := by
  have hs := (State.predBlock_ok (State.predTriple_ok h c)).2 col yy hcol hyy
  rwa [← Nat.cast_add, ← Nat.cast_add] at hs

theorem State.vectorSample_error {e : ReadFault} (h : s.predTriple ref lh bly vx vy m = .error e) :
    ∃ c yy col, yy < planeShare c lh ∧ col < mbPlaneWidth c ∧ s.vectorSample ref bly vx vy m c yy col = .error e := by
  obtain ⟨c, hc⟩ := State.predTriple_error h
  obtain ⟨col, yy, hcol, hyy, hs⟩ := State.predBlock_error hc
  rw [← Nat.cast_add, ← Nat.cast_add] at hs
  exact ⟨c, yy, col, hyy, hcol, hs⟩

end Triple

-- ---------------------------------------------------------------- the samples of a direction (R533, R536)

section Direction
variable {s : State} {d : Bool} {ref : Fin 3}

/-- The sample a frame vector chooses at a row and column of the macroblock (R533). -/
def State.frameSample (s : State) (d : Bool) (ref : Fin 3) (c : Plane) (row col : Nat) : Except ReadFault Nat :=
  s.vectorSample ref (16 * s.mby) (s.slc.pmvAt false d false) (s.slc.pmvAt false d true) .frame c row col

/-- The blocks of the field vector `r` (R536). -/
def State.fieldTriple (s : State) (d : Bool) (ref : Fin 3) (r : Bool) : Except ReadFault (Triple (List Nat)) :=
  s.predTriple ref 8 (8 * s.mby) (s.slc.pmvAt r d false) (s.slc.pmvAt r d true / 2) (.field ((s.slc.mvfs.get r).get d))

/-- The sample the field vector `r` chooses at a row of its field and a column of the macroblock (R536). -/
def State.fieldSample (s : State) (d : Bool) (ref : Fin 3) (r : Bool) (c : Plane) (yy col : Nat) :
    Except ReadFault Nat :=
  s.vectorSample ref (8 * s.mby) (s.slc.pmvAt r d false) (s.slc.pmvAt r d true / 2)
    (.field ((s.slc.mvfs.get r).get d)) c yy col

/-- In field motion the bottom field's blocks follow the top field's. -/
theorem State.predictDirection_fields (hm : s.mb.motionType ≠ .frame) :
    s.predictDirection d ref = (do
      let top ← s.fieldTriple d ref false
      let bottom ← s.fieldTriple d ref true
      return .fields top bottom) := by
  unfold State.predictDirection
  split
  · contradiction
  · rfl

theorem planeShare_sixteen (c : Plane) : planeShare c 16 = mbPlaneWidth c := by cases c <;> rfl

theorem planeShare_eight (c : Plane) : planeShare c 8 = mbPlaneWidth c / 2 := by cases c <;> rfl

theorem mbPlaneWidth_even (c : Plane) : mbPlaneWidth c = 2 * (mbPlaneWidth c / 2) := by cases c <;> rfl

theorem State.predictDirection_ok_of_frame (hm : s.mb.motionType = .frame) {p : DirPred}
    (h : s.predictDirection d ref = .ok p) {c : Plane} {row col : Nat} (hr : row < mbPlaneWidth c)
    (hc : col < mbPlaneWidth c) : s.frameSample d ref c row col = .ok (p.sample c row col) := by
  simp only [State.predictDirection, hm] at h
  obtain ⟨t, ht, h⟩ := readBind_ok h
  cases h
  exact State.vectorSample_ok ht (by rwa [planeShare_sixteen]) hc

theorem State.predictDirection_error_of_frame (hm : s.mb.motionType = .frame) {e : ReadFault}
    (h : s.predictDirection d ref = .error e) :
    ∃ c row col, row < mbPlaneWidth c ∧ col < mbPlaneWidth c ∧ s.frameSample d ref c row col = .error e := by
  simp only [State.predictDirection, hm] at h
  obtain ⟨c, row, col, hr, hc, hs⟩ := State.vectorSample_error (readBind_pure_error h)
  exact ⟨c, row, col, by rwa [planeShare_sixteen] at hr, hc, hs⟩

theorem State.fieldSample_ok {r : Bool} {p : Triple (List Nat)} (h : s.fieldTriple d ref r = .ok p) {c : Plane}
    {yy col : Nat} (hy : yy < mbPlaneWidth c / 2) (hc : col < mbPlaneWidth c) :
    s.fieldSample d ref r c yy col = .ok ((p.get c).getD (yy * mbPlaneWidth c + col) 0) :=
  State.vectorSample_ok h (by rwa [planeShare_eight]) hc

/-- A row of the macroblock is a row of the field of its parity. -/
theorem State.predictDirection_ok_of_fields (hm : s.mb.motionType ≠ .frame) {p : DirPred}
    (h : s.predictDirection d ref = .ok p) {c : Plane} {row col : Nat} (hr : row < mbPlaneWidth c)
    (hc : col < mbPlaneWidth c) :
    s.fieldSample d ref (decide (row % 2 = 1)) c (row / 2) col = .ok (p.sample c row col) := by
  have hy : row / 2 < mbPlaneWidth c / 2 := by have := mbPlaneWidth_even c; omega
  rw [State.predictDirection_fields hm] at h
  obtain ⟨top, htop, h⟩ := readBind_ok h
  obtain ⟨bottom, hbottom, h⟩ := readBind_ok h
  cases h
  obtain h0 | h1 := Nat.mod_two_eq_zero_or_one row
  · simpa [h0, DirPred.sample] using State.fieldSample_ok htop hy hc
  · simpa [h1, DirPred.sample] using State.fieldSample_ok hbottom hy hc

/-- A field vector without a prediction stops at a sample of the rows of its field. -/
theorem State.fieldSample_error {r : Bool} {e : ReadFault} (h : s.fieldTriple d ref r = .error e) :
    ∃ c row col, row < mbPlaneWidth c ∧ col < mbPlaneWidth c ∧ decide (row % 2 = 1) = r ∧
      s.fieldSample d ref r c (row / 2) col = .error e := by
  obtain ⟨c, yy, col, hy, hc, hs⟩ := State.vectorSample_error h
  rw [planeShare_eight] at hy
  have heven := mbPlaneWidth_even c
  have hdiv : (2 * yy + r.toNat) / 2 = yy := by cases r <;> simp only [Bool.toNat_false, Bool.toNat_true] <;> omega
  refine ⟨c, 2 * yy + r.toNat, col, ?_, hc, ?_, by rw [hdiv]; exact hs⟩
  · have := r.toNat_le; omega
  · cases r <;> simp only [Bool.toNat_false, Bool.toNat_true, decide_eq_true_eq, decide_eq_false_iff_not] <;> omega

theorem State.predictDirection_error_of_fields (hm : s.mb.motionType ≠ .frame) {e : ReadFault}
    (h : s.predictDirection d ref = .error e) :
    ∃ c row col, row < mbPlaneWidth c ∧ col < mbPlaneWidth c ∧
      s.fieldSample d ref (decide (row % 2 = 1)) c (row / 2) col = .error e := by
  rw [State.predictDirection_fields hm] at h
  obtain ⟨r, hfield⟩ : ∃ r, s.fieldTriple d ref r = .error e := by
    obtain h | ⟨_, h⟩ := readBind_error h
    · exact ⟨false, h⟩
    · exact ⟨true, readBind_pure_error h⟩
  obtain ⟨c, row, col, hr, hc, rfl, hs⟩ := State.fieldSample_error hfield
  exact ⟨c, row, col, hr, hc, hs⟩

end Direction

-- ---------------------------------------------------------------- the directions of a macroblock (R530 to R532)

section Directions
variable {s : State}

theorem State.predictsForward_iff : s.predictsForward = true ↔ s.mb.mbType.f = true ∨ s.pic.picture_coding_type = 2 := by
  simp [State.predictsForward]

theorem State.prediction_intra (h : s.mb.mbType.i = true) : s.prediction = .ok (none, none) := if_pos h

theorem State.prediction_inter (h : s.mb.mbType.i = false) : s.prediction = s.formPredictions := by
  simp [State.prediction, h]

end Directions

theorem State.luma_position {s : State} (c : Plane) : mbPlaneWidth c * s.mby = planeShare c (16 * s.mby) := by
  cases c <;> simp only [mbPlaneWidth, planeShare, reduceCtorEq, if_true, if_false] <;> omega

theorem State.field_position {s : State} (c : Plane) : mbPlaneWidth c / 2 * s.mby = planeShare c (8 * s.mby) := by
  cases c <;> simp only [mbPlaneWidth, planeShare, reduceCtorEq, if_true, if_false] <;> omega

/-- Settles O60: frame motion and field motion choose by vector 0 and by the vector of the row's field, and the directions
are formed one after the other. -/
theorem predictionFollowsVectors : Obligations.PredictionFollowsVectors := by
  refine ⟨fun s d ref => ?_, fun s => ⟨State.prediction_intra, fun hi hf => ?_, fun hi hf => ?_⟩⟩
  · by_cases hm : s.mb.motionType = .frame
    · simp only [if_pos hm]
      refine ⟨fun p h c row col hr hc => ?_, fun e h => ?_⟩
      · have := State.predictDirection_ok_of_frame hm h hr hc
        rw [State.frameSample, State.vectorSample, ← State.luma_position] at this
        exact this
      · obtain ⟨c, row, col, hr, hc, hs⟩ := State.predictDirection_error_of_frame hm h
        rw [State.frameSample, State.vectorSample, ← State.luma_position] at hs
        exact ⟨c, row, col, hr, hc, hs⟩
    · simp only [if_neg hm]
      refine ⟨fun p h c row col hr hc => ?_, fun e h => ?_⟩
      · have := State.predictDirection_ok_of_fields hm h hr hc
        rw [State.fieldSample, State.vectorSample, ← State.field_position] at this
        exact this
      · obtain ⟨c, row, col, hr, hc, hs⟩ := State.predictDirection_error_of_fields hm h
        rw [State.fieldSample, State.vectorSample, ← State.field_position] at hs
        exact ⟨c, row, col, hr, hc, hs⟩
  · have hfwd := State.predictsForward_iff.2 hf
    rw [State.prediction_inter hi]
    refine ⟨fun e h => ?_, fun p h hb => ?_, fun p e h hb h' => ?_, fun p q h hb h' => ?_⟩
    · simp only [State.formPredictions, hfwd, h]
      rfl
    · simp only [State.formPredictions, hfwd, h, hb]
      rfl
    · simp only [State.formPredictions, hfwd, h, hb, h']
      rfl
    · simp only [State.formPredictions, hfwd, h, hb, h']
      rfl
  · have hfwd : s.predictsForward = false := by
      rw [← Bool.not_eq_true, State.predictsForward_iff]
      exact hf
    rw [State.prediction_inter hi]
    refine ⟨fun e hb h => ?_, fun q hb h => ?_, fun hb => ?_⟩
    · simp only [State.formPredictions, hfwd, hb, h]
      rfl
    · simp only [State.formPredictions, hfwd, hb, h]
      rfl
    · simp only [State.formPredictions, hfwd, hb]
      rfl

end Sys2Proof.Machine
end

section
/-! PROOFS. Macroblocks without coded blocks (R445, R452, R547): what reconstruction writes is the prediction, and with
vector (0, 0) the forward reference; the end of a macroblock, and runs of skipped ones. -/

namespace Sys2Proof.Machine

-- ---------------------------------------------------------------- reconstruction without coded blocks

/-- The macroblock at `mba` is on the grid of allocated buffers. -/
def State.OnGrid (s : State) : Prop := s.inst.allocated = some (s.width, s.height) ∧ s.slc.mba < s.mbCount

/-- No block is coded, and all are zero. -/
def State.Uncoded (s : State) : Prop := s.mb.cbp = 0 ∧ s.mb.blk = zeroBlk

theorem State.Uncoded.residuals {s : State} (h : s.Uncoded) : s.residuals = s.mb.blk := by
  obtain ⟨hcbp, hblk⟩ := h
  rw [State.residuals_eq, hcbp, hblk]
  rfl

/-- In the memory `m` the macroblock at `mba` of the current buffer holds the prediction `p`, clipped, and every sample
outside it is what it was. -/
def State.Shows (s : State) (m : Memory) (p : Option DirPred × Option DirPred) : Prop :=
  (∀ c row col, row < mbPlaneWidth c → col < mbPlaneWidth c →
    m.read (s.mbAddr s.inst.curIdx s.slc.mba c row col) = some (BitVec.ofNat 8 (min 255 (predAt p c row col)))) ∧
  ∀ n, s.OutsideMb s.inst.curIdx s.slc.mba n → m.read n = s.inst.fb.read n

theorem zeroBlk_getD (i : Fin 6) (k : Nat) : (zeroBlk.getD i.val []).getD k 0 = 0 := by
  have h : zeroBlk.getD i.val [] = List.replicate 64 0 := by fin_cases i <;> rfl
  rw [h, List.getD_eq_getElem?_getD, List.getElem?_replicate]
  split <;> rfl

theorem sampleByte_natCast (n : Nat) : sampleByte ((n : Int) + 0) = BitVec.ofNat 8 (min 255 n) := by
  rw [sampleByte_eq]
  congr 1
  omega

/-- Without coded blocks the macroblock is written as its prediction (R545). -/
theorem State.reconstruct_uncoded {s : State} (hg : s.OnGrid) (hu : s.Uncoded) {p : Option DirPred × Option DirPred}
    (hp : s.prediction = .ok p) : ∃ m, s.reconstruct = .go (s.withMemory m) ∧ s.Shows m p := by
  obtain ⟨ha, hm⟩ := hg
  have hgo := (State.reconstruct_eq (State.reconReady_of_grid ha hm)).2 p hp _ hu.residuals _ rfl
  refine ⟨_, hgo, fun c row col hr hc => ?_, fun n hn => State.read_reconCells_outside _ p _ hn⟩
  obtain ⟨i, x, y, hx, hy, rfl, hd⟩ := destRowCol_surj s.mb.dctType hr hc
  have hread := State.read_reconCells ha hm s.inst.fb p s.mb.blk i hx hy
  rw [hd, hu.2, zeroBlk_getD] at hread
  dsimp only at hread
  rw [sampleByte_natCast] at hread
  rw [hu.2]
  exact hread

-- ---------------------------------------------------------------- a zero forward vector (R547)

/-- Forward prediction alone, with vector (0, 0) in frame motion. -/
structure State.StillForward (s : State) : Prop where
  notIntra : s.mb.mbType.i = false
  notBackward : s.mb.mbType.b = false
  forward : s.predictsForward = true
  motion : s.mb.motionType = .frame
  vector : s.slc.pmv.p0.p0 = ⟨0, 0⟩

/-- The prediction at vector (0, 0) is the co-located sample. -/
theorem State.frameSample_still {s : State} {ref : Fin 3} (hg : s.OnGrid) (hv : s.slc.pmv.p0.p0 = ⟨0, 0⟩) {c : Plane}
    {row col : Nat} (hr : row < mbPlaneWidth c) (hc : col < mbPlaneWidth c) {v : Byte}
    (hs : s.mbSample ref s.slc.mba c row col = some v) : s.frameSample false ref c row col = .ok v.toNat := by
  obtain ⟨hx, hy⟩ := State.mbPos_lt hg.1 hg.2 hr hc
  have hzero : ∀ t, s.slc.pmvAt false false t = 0 := by
    intro t
    simp only [SliceRegs.pmvAt, Pair.get, hv, Bool.false_eq_true, if_false, ite_self]
  have hcomp : planeComponent c 0 = 0 := by cases c <;> rfl
  have hread : s.planeRead ref c (s.mbPos s.slc.mba c row col).1 (s.mbPos s.slc.mba c row col).2 = .ok v.toNat :=
    State.planeRead_sample ⟨by omega, by omega, by omega, by omega⟩ hs
  simp only [State.frameSample, State.vectorSample, hzero, hcomp, ← State.luma_position, Int.zero_ediv, Int.add_zero,
    Int.zero_emod]
  exact hread

theorem State.StillForward.prediction {s : State} (h : s.StillForward) (hg : s.OnGrid)
    (hw : s.MbWritten s.inst.fwdIdx s.slc.mba) :
    ∃ p, s.prediction = .ok (some p, none) ∧ s.predictDirection false s.inst.fwdIdx = .ok p := by
  have hzero : ∀ t, s.slc.pmvAt false false t = 0 := by
    intro t
    simp only [SliceRegs.pmvAt, Pair.get, h.vector, Bool.false_eq_true, if_false, ite_self]
  obtain ⟨p, hp⟩ := State.predictDirection_zero (d := false) hg.1 hg.2 hw h.motion (hzero false) (hzero true)
  refine ⟨p, ?_, hp⟩
  rw [State.prediction_inter h.notIntra]
  simp only [State.formPredictions, h.forward, h.notBackward, hp]
  rfl

/-- So a clipped sample of that prediction is the co-located one of the forward reference (R547). -/
theorem State.StillForward.sample {s : State} (h : s.StillForward) (hg : s.OnGrid)
    (hw : s.MbWritten s.inst.fwdIdx s.slc.mba) {p : DirPred} (hp : s.predictDirection false s.inst.fwdIdx = .ok p)
    {c : Plane} {row col : Nat} (hr : row < mbPlaneWidth c) (hc : col < mbPlaneWidth c) :
    some (BitVec.ofNat 8 (min 255 (predAt (some p, none) c row col))) = s.mbSample s.inst.fwdIdx s.slc.mba c row col := by
  obtain ⟨v, hv⟩ := Option.isSome_iff_exists.1 (hw c row col hr hc)
  have hsample : p.sample c row col = v.toNat := by
    have h1 := State.predictDirection_ok_of_frame h.motion hp hr hc
    rw [State.frameSample_still hg h.vector hr hc hv] at h1
    exact (Except.ok.inj h1).symm
  have hlt := v.isLt
  have hmin : min 255 v.toNat = v.toNat := by omega
  rw [hv]
  simp only [predAt, hsample, hmin, BitVec.ofNat_toNat, BitVec.setWidth_eq]

-- ---------------------------------------------------------------- the end of a macroblock (R446, R454)

theorem firstCoded_zero : firstCoded 0 0 = none := by decide

theorem exec_cbp_zero {s : State} (hc : s.ctx = .cbp) :
    exec .CBP_0 s = ((s.consume 9).onMb fun m => { m with cbp := 0 }).finishMacroblock.finish := by
  have h : exec .CBP_0 s = (cbpCode 9 0 s).finish := rfl
  rw [h, cbpCode, hc]
  simp only [State.setPattern, State.nextBlock, State.onMb_mb, firstCoded_zero]

/-- The row of each table's end of block. -/
theorem exec_endOfBlock : ∀ e ∈ [(Instr.DCT0_EOB, 2), (Instr.DCT1_EOB, 4)], ∀ s, exec e.1 s = (endOfBlock e.2 s).finish := by
  refine List.forall_mem_cons.2 ⟨fun _ => rfl, List.forall_mem_cons.2 ⟨fun _ => rfl, List.forall_mem_nil _⟩⟩

/-- Coefficient control of a block (R381) replaces it under `iso`. -/
theorem State.coefControl_eq (s : State) (i : Fin 6) :
    s.coefControl i = { s with mb := { s.mb with
      blk := if s.cfg.coefControl = .iso then s.mb.blk.set i.val (coefControlIso (s.mb.blk.getD i.val [])) else s.mb.blk } } := by
  cases h : s.cfg.coefControl <;> simp only [State.coefControl, h] <;> rfl

theorem State.prediction_afterResets_intra {s : State} (hi : s.mb.mbType.i = true) :
    s.afterResets.prediction = .ok (none, none) := by
  refine State.prediction_intra ?_
  unfold State.afterResets
  rw [if_pos hi]
  exact hi

/-- Settles O47: with no later block coded the block loop ends, and `finishMacroblock_ends` says how. -/
theorem lastBlockEndsMacroblock : Obligations.LastBlockEndsMacroblock := by
  refine ⟨fun e he s k first hc hlast => ?_, fun s hc => ?_, fun s hi => ?_⟩
  · have hnone : firstCoded s.mb.cbp (k.val + 1) = none := firstCoded_eq_none fun j hj => hlast j hj
    rw [exec_endOfBlock e he, endOfBlock, hc]
    simp only [State.coefControl_eq, State.nextBlock]
    rw [State.consume_mb, hnone]
    exact State.finishMacroblock_ends _
  · rw [exec_cbp_zero hc]
    exact State.finishMacroblock_ends _
  · exact ⟨State.prediction_afterResets_intra hi, fun _ _ _ => rfl⟩

-- ---------------------------------------------------------------- an empty pattern (R445, R547)

/-- The registers a P macroblock without coded blocks is reconstructed with (R450, R451, R454). -/
def State.emptyPattern (s : State) : State :=
  let dc : Int := 2 ^ (7 + s.pic.intra_dc_precision.toNat)
  let modes : MacroblockRegs :=
    if s.mb.mbType.f then s.mb
    else { s.mb with motionType := .frame, mvCount := 1, mvFormat := .frame, mvScale := false }
  { s with
    slc := { s.slc with
      dcPred := ⟨dc, dc, dc⟩,
      pmv :=
        if s.mb.mbType.f then s.slc.pmv else ⟨⟨⟨0, 0⟩, s.slc.pmv.p0.p1⟩, ⟨⟨0, 0⟩, s.slc.pmv.p1.p1⟩⟩ },
    mb := { modes with cbp := 0, prevMbType := s.mb.mbType } }

theorem State.afterResets_emptyPattern {s : State} (h2 : s.pic.picture_coding_type = 2) (hi : s.mb.mbType.i = false) :
    (s.onMb fun m => { m with cbp := 0 }).afterResets = s.emptyPattern := by
  unfold State.afterResets State.emptyPattern
  cases hf : s.mb.mbType.f with
  | false =>
    simp only [State.onMb_mb, State.onMb_pic, State.onMb_slc, hi, hf, h2, Bool.false_eq_true, if_false, and_self, if_true]
    rfl
  | true =>
    simp only [State.onMb_mb, State.onMb_pic, State.onMb_slc, hi, hf, h2, Bool.false_eq_true, Bool.true_eq_false,
      if_false, and_false, if_true]
    rfl

/-- Without forward motion the vector is the reset one. -/
theorem State.emptyPattern_still {s : State} (h2 : s.pic.picture_coding_type = 2) (hi : s.mb.mbType.i = false)
    (hb : s.mb.mbType.b = false)
    (hf : s.mb.mbType.f = true → s.mb.motionType = .frame ∧ s.slc.pmv.p0.p0 = ⟨0, 0⟩) : s.emptyPattern.StillForward := by
  have hfor : s.emptyPattern.predictsForward = true := State.predictsForward_iff.2 (.inr h2)
  unfold State.emptyPattern at hfor ⊢
  cases h : s.mb.mbType.f with
  | false =>
    rw [h] at hfor
    exact ⟨hi, hb, hfor, rfl, rfl⟩
  | true =>
    rw [h] at hfor
    exact ⟨hi, hb, hfor, (hf h).1, (hf h).2⟩

/-- Settles O48: the registers after the resets predict forward with vector (0, 0), and no block is coded. -/
theorem zeroMotionCopies : Obligations.ZeroMotionCopies := by
  intro s hc h2 hi hb hf hblk ha hm hw
  have hstill := State.emptyPattern_still (s := s.consume 9) h2 hi hb hf
  have hregs := State.afterResets_emptyPattern (s := s.consume 9) h2 hi
  have hgrid : (s.consume 9).emptyPattern.OnGrid := ⟨ha, hm⟩
  have huncoded : (s.consume 9).emptyPattern.Uncoded := by
    refine ⟨rfl, ?_⟩
    unfold State.emptyPattern
    rw [State.consume_mb]
    cases s.mb.mbType.f <;> exact hblk
  obtain ⟨p, hp, hdir⟩ := hstill.prediction hgrid hw
  obtain ⟨m, hgo, hshows⟩ := State.reconstruct_uncoded hgrid huncoded hp
  refine ⟨m, ?_, fun c row col hr hc => ?_, hshows.2⟩
  swap
  · exact (hshows.1 c row col hr hc).trans (hstill.sample hgrid hw hdir hr hc)
  rw [exec_cbp_zero hc, State.finishMacroblock, State.afterResets_eq, hregs, hgo, Flow.bind, Flow.finish]
  rw [State.afterMacroblock_congr (t := (s.consume 9).emptyPattern.withMemory m) (s := s.consume 9) rfl rfl rfl rfl]
  rfl

end Sys2Proof.Machine
end

section
/-! PROOFS. Runs of skipped macroblocks (R452, R614): each is written as its prediction, which the ones written before it do
not change. -/

namespace Sys2Proof.Machine

-- ---------------------------------------------------------------- the registers of a skipped macroblock

section Registers
variable {s : State}

/-- The type of a skipped macroblock: forward in a P picture, the previous directions in a B picture (R452). -/
def State.skipType (s : State) : MbFlags :=
  if s.pic.picture_coding_type = 2 then ⟨false, true, false, false, false⟩ else s.mb.prevMbType.directions

/-- The vectors of a skipped macroblock (R452). -/
def State.skipPmv (s : State) : Pair (Pair (Pair Int)) :=
  if s.pic.picture_coding_type = 2 then zeroForwardPmv s.slc.pmv else s.slc.pmv

/-- The registers of a skipped macroblock of type `f` at address `mba` (R452, R614). -/
def State.skipBy (s : State) (f : MbFlags) (pmv : Pair (Pair (Pair Int))) (mba inc : Nat) (m : Memory) : State :=
  { s with
    inst := { s.inst with fb := m },
    slc := { s.slc with
      mba := mba, mbaInc := inc, dcPred := Triple.const (dcReset s.pic.intra_dc_precision), pmv := pmv },
    mb := { s.mb with
      blk := zeroBlk, cbp := 0, motionType := .frame, mvCount := 1, mvFormat := .frame, mvScale := false,
      dctType := false, mbType := f, prevMbType := f } }

/-- The state in which the `n`-th skipped macroblock after the one at `mba` is reconstructed, with sample memory `m`. -/
def State.skipAt (s : State) (n : Nat) (m : Memory) : State :=
  s.skipBy s.skipType s.skipPmv (s.slc.mba + n) (s.slc.mbaInc - n) m

/-- A skip has a prediction direction (R452). -/
def State.Skippable (s : State) : Prop :=
  s.pic.picture_coding_type = 2 ∨ s.pic.picture_coding_type = 3 ∧ s.mb.prevMbType.directions.predicted = true

theorem State.skipType_of_P (h2 : s.pic.picture_coding_type = 2) : s.skipType = ⟨false, true, false, false, false⟩ :=
  if_pos h2

theorem State.skipPmv_of_P (h2 : s.pic.picture_coding_type = 2) : s.skipPmv = zeroForwardPmv s.slc.pmv := if_pos h2

theorem State.coding_type_ne_P (h3 : s.pic.picture_coding_type = 3) : s.pic.picture_coding_type ≠ 2 := by
  rw [h3]
  decide

theorem State.skipType_of_B (h3 : s.pic.picture_coding_type = 3) : s.skipType = s.mb.prevMbType.directions :=
  if_neg (State.coding_type_ne_P h3)

theorem State.skipPmv_of_B (h3 : s.pic.picture_coding_type = 3) : s.skipPmv = s.slc.pmv :=
  if_neg (State.coding_type_ne_P h3)

theorem State.Skippable.advance_skipped (h : s.Skippable) :
    s.advance.skippedMacroblock = (s.skipAt 1 s.inst.fb).reconstruct := by
  unfold State.skippedMacroblock
  obtain h2 | ⟨h3, hdir⟩ := h
  · rw [if_pos (show s.advance.pic.picture_coding_type = 2 from h2)]
    refine congrArg State.reconstruct ?_
    rw [State.skipAt, State.skipType_of_P h2, State.skipPmv_of_P h2]
    simp only [State.keepType, State.onMb, State.onSlc, State.resetDcPred, State.advance, MacroblockRegs.setModes,
      State.skipBy, reduceCtorEq, if_false, decide_false]
  · rw [if_neg (show s.advance.pic.picture_coding_type ≠ 2 from State.coding_type_ne_P h3),
      if_pos (show s.advance.pic.picture_coding_type = 3 from h3)]
    refine (if_pos hdir).trans (congrArg State.reconstruct ?_)
    rw [State.skipAt, State.skipType_of_B h3, State.skipPmv_of_B h3]
    rfl

/-- Skipping on from a skipped macroblock is skipping further from the first one. -/
theorem State.skipAt_skipAt (s : State) (k n : Nat) (m m' : Memory) : (s.skipAt k m).skipAt n m' = s.skipAt (k + n) m' := by
  have htype : (s.skipAt k m).skipType = s.skipType := by
    show (if s.pic.picture_coding_type = 2 then _ else s.skipType.directions) = s.skipType
    unfold State.skipType
    split <;> rfl
  have hpmv : (s.skipAt k m).skipPmv = s.skipPmv := by
    show (if s.pic.picture_coding_type = 2 then zeroForwardPmv s.skipPmv else s.skipPmv) = s.skipPmv
    unfold State.skipPmv
    split <;> rfl
  have hmba : (s.skipAt k m).slc.mba + n = s.slc.mba + (k + n) := Nat.add_assoc _ _ _
  have hinc : (s.skipAt k m).slc.mbaInc - n = s.slc.mbaInc - (k + n) := Nat.sub_sub _ _ _
  show (s.skipAt k m).skipBy _ _ _ _ m' = _
  rw [htype, hpmv, hmba, hinc]
  rfl

theorem State.Skippable.skipAt (h : s.Skippable) (n : Nat) (m : Memory) : (s.skipAt n m).Skippable := by
  obtain h2 | ⟨h3, hdir⟩ := h
  · exact .inl h2
  · refine .inr ⟨h3, ?_⟩
    show s.skipType.directions.predicted = true
    rw [State.skipType_of_B h3]
    exact hdir

theorem State.skipAt_uncoded (s : State) (n : Nat) (m : Memory) : (s.skipAt n m).Uncoded := ⟨rfl, rfl⟩

end Registers

-- ---------------------------------------------------------------- the samples of a run

section Samples
variable {s : State} {m : Memory}

/-- A sample of another buffer lies outside every macroblock on the grid. -/
theorem State.outsideMb_of_ne (ha : s.inst.allocated = some (s.width, s.height)) {a : Nat} (hm : a < s.mbCount)
    {b b' : Fin 3} (hb : b ≠ b') {c : Plane} {x y : Nat} (hx : x < s.planeWidth c) (hy : y < s.planeHeight c) :
    s.OutsideMb b' a (s.addr b c x y) := by
  intro c' row col hr hc he
  obtain ⟨hx', hy'⟩ := State.mbPos_lt ha hm hr hc
  exact hb (State.addr_inj ha hx hy hx' hy' he).1

/-- A sample of a macroblock lies outside every other macroblock on the grid. -/
theorem State.outsideMb_of_address_ne (ha : s.inst.allocated = some (s.width, s.height)) {a a' : Nat} (hm : a < s.mbCount)
    (hm' : a' < s.mbCount) (hne : a ≠ a') {b : Fin 3} {c : Plane} {row col : Nat} (hr : row < mbPlaneWidth c)
    (hc : col < mbPlaneWidth c) : s.OutsideMb b a' (s.mbAddr b a c row col) := by
  intro c' row' col' hr' hc' he
  exact hne (State.mbAddr_inj ha hm hm' hr hc hr' hc' he).2.1

/-- What is written to a macroblock of the current buffer changes no other buffer. -/
theorem State.Shows.sameBuffer {p : Option DirPred × Option DirPred} (h : s.Shows m p) (hg : s.OnGrid) {b : Fin 3}
    (hb : b ≠ s.inst.curIdx) : s.SameBuffer m b :=
  fun _ _ _ hx hy => h.2 _ (State.outsideMb_of_ne hg.1 hg.2 hb hx hy)

/-- In the memory `m` each of the `n` macroblocks after the one at `mba` holds its prediction, clipped, and every sample
outside them is what it was. -/
def State.ShowsRun (s : State) (n : Nat) (m : Memory) : Prop :=
  (∀ k p, 1 ≤ k → k ≤ n → (s.skipAt k s.inst.fb).prediction = .ok p →
    ∀ c row col, row < mbPlaneWidth c → col < mbPlaneWidth c →
      m.read (s.mbAddr s.inst.curIdx (s.slc.mba + k) c row col) = some (BitVec.ofNat 8 (min 255 (predAt p c row col)))) ∧
  ∀ a, (∀ k, 1 ≤ k → k ≤ n → s.OutsideMb s.inst.curIdx (s.slc.mba + k) a) → m.read a = s.inst.fb.read a

/-- What a run of `n` skipped macroblocks needs: a direction, the grid, and references other than the current buffer. -/
structure State.CanSkip (s : State) (n : Nat) : Prop where
  skippable : s.Skippable
  allocated : s.inst.allocated = some (s.width, s.height)
  grid : s.slc.mba + n < s.mbCount
  forward : s.inst.fwdIdx ≠ s.inst.curIdx
  backward : s.skipType.b = true → s.inst.bwdIdx ≠ s.inst.curIdx

theorem State.CanSkip.next {n : Nat} (h : s.CanSkip (n + 1)) (m : Memory) : (s.skipAt 1 m).CanSkip n where
  skippable := h.skippable.skipAt 1 m
  allocated := h.allocated
  grid := by
    have := h.grid
    show s.slc.mba + 1 + n < s.mbCount
    omega
  forward := h.forward
  backward := by
    intro hb
    refine h.backward ?_
    have htype : (s.skipAt 1 m).skipType = s.skipType := congrArg (fun t => t.mb.mbType) (s.skipAt_skipAt 1 0 m m)
    rwa [htype] at hb

theorem State.CanSkip.onGrid {n : Nat} (h : s.CanSkip (n + 1)) : (s.skipAt 1 s.inst.fb).OnGrid := by
  refine ⟨h.allocated, ?_⟩
  have := h.grid
  show s.slc.mba + 1 < s.mbCount
  omega

/-- The prediction of a later skipped macroblock does not see what the first one writes. -/
theorem State.CanSkip.prediction_later {n : Nat} (h : s.CanSkip (n + 1)) {p : Option DirPred × Option DirPred}
    (hs : (s.skipAt 1 s.inst.fb).Shows m p) (k : Nat) :
    ((s.skipAt 1 m).skipAt k m).prediction = (s.skipAt (1 + k) s.inst.fb).prediction := by
  rw [State.skipAt_skipAt]
  refine State.prediction_withMemory (s := s.skipAt (1 + k) s.inst.fb) (m := m) ?_ fun hb => ?_
  · exact hs.sameBuffer h.onGrid h.forward
  · exact hs.sameBuffer h.onGrid (h.backward hb)

/-- The first skipped macroblock is written as its prediction, and the run goes on behind it. -/
theorem State.CanSkip.first {n : Nat} (h : s.CanSkip (n + 1)) {p : Option DirPred × Option DirPred}
    (hp : (s.skipAt 1 s.inst.fb).prediction = .ok p) :
    ∃ m, State.skipRun (n + 1) s = State.skipRun n (s.skipAt 1 m) ∧ (s.skipAt 1 s.inst.fb).Shows m p := by
  obtain ⟨m, hgo, hs⟩ := State.reconstruct_uncoded h.onGrid (s.skipAt_uncoded 1 s.inst.fb) hp
  refine ⟨m, ?_, hs⟩
  rw [State.skipRun, h.skippable.advance_skipped, hgo]
  rfl

/-- The samples of a run are those of its first macroblock and those of the run behind it. -/
theorem State.CanSkip.showsRun {n : Nat} (h : s.CanSkip (n + 1)) {p₁ : Option DirPred × Option DirPred} {m₁ : Memory}
    (hp₁ : (s.skipAt 1 s.inst.fb).prediction = .ok p₁) (hs : (s.skipAt 1 s.inst.fb).Shows m₁ p₁)
    (hrest : (s.skipAt 1 m₁).ShowsRun n m) : s.ShowsRun (n + 1) m := by
  obtain ⟨hread, hout⟩ := hrest
  have hgrid := h.grid
  have haddr : ∀ k, (s.skipAt 1 m₁).slc.mba + k = s.slc.mba + (1 + k) := fun k => Nat.add_assoc _ _ _
  refine ⟨fun k p hk hkn hp c row col hr hc => ?_, fun a ha => ?_⟩
  · obtain rfl | hlater := eq_or_lt_of_le hk
    · obtain rfl : p = p₁ := Except.ok.inj (hp.symm.trans hp₁)
      refine (hout _ fun k' hk' hkn' => ?_).trans (hs.1 c row col hr hc)
      rw [haddr]
      exact State.outsideMb_of_address_ne h.allocated (by omega) (by omega) (by omega) hr hc
    · obtain ⟨k', rfl⟩ : ∃ k', k = 1 + k' := ⟨k - 1, by omega⟩
      have hk' := hread k' p (by omega) (by omega) ((h.prediction_later hs k').trans hp) c row col hr hc
      rw [haddr] at hk'
      exact hk'
  · refine (hout a fun k hk hkn => ?_).trans (hs.2 a (ha 1 le_rfl (by omega)))
    rw [haddr]
    exact ha (1 + k) (by omega) (by omega)

/-- A run whose predictions are all formed writes each macroblock as its prediction (R452, R614). -/
theorem State.CanSkip.skipRun {n : Nat} (h : s.CanSkip (n + 1))
    (hp : ∀ k, 1 ≤ k → k ≤ n + 1 → ∃ p, (s.skipAt k s.inst.fb).prediction = .ok p) :
    ∃ m, State.skipRun (n + 1) s = .go (s.skipAt (n + 1) m) ∧ s.ShowsRun (n + 1) m := by
  induction n generalizing s with
  | zero =>
    obtain ⟨p₁, hp₁⟩ := hp 1 le_rfl le_rfl
    obtain ⟨m₁, hrun, hs⟩ := h.first hp₁
    exact ⟨m₁, hrun, h.showsRun hp₁ hs ⟨fun k p hk hk' => absurd hk' (by omega), fun _ _ => rfl⟩⟩
  | succ n ih =>
    obtain ⟨p₁, hp₁⟩ := hp 1 le_rfl (by omega)
    obtain ⟨m₁, hrun, hs⟩ := h.first hp₁
    obtain ⟨m, hrest, hshows⟩ := ih (h.next m₁) fun k hk hkn => by
      obtain ⟨p, hpk⟩ := hp (1 + k) (by omega) (by omega)
      exact ⟨p, (h.prediction_later hs k).trans hpk⟩
    refine ⟨m, ?_, h.showsRun hp₁ hs hshows⟩
    rw [hrun, hrest, State.skipAt_skipAt, Nat.add_comm 1 (n + 1)]

/-- An increment of `n + 2` skips `n + 1` macroblocks and begins the one behind them (R614). -/
theorem State.CanSkip.nextMacroblocks {n : Nat} (h : s.CanSkip (n + 1)) (hinc : s.slc.mbaInc = n + 2)
    (hm : s.slc.mba + (n + 2) < s.mbCount)
    (hp : ∀ k, 1 ≤ k → k ≤ n + 1 → ∃ p, (s.skipAt k s.inst.fb).prediction = .ok p) :
    ∃ m, s.nextMacroblocks = .go { s.skipBy s.skipType s.skipPmv (s.slc.mba + (n + 2)) 0 m with ctx := .mbType } ∧
      s.ShowsRun (n + 1) m := by
  obtain ⟨m, hrun, hshows⟩ := h.skipRun hp
  refine ⟨m, ?_, hshows⟩
  have hleft : s.slc.mbaInc - (n + 1) - 1 = 0 := by omega
  rw [State.nextMacroblocks, if_neg (by omega), hinc, show n + 2 - 1 = n + 1 from rfl, hrun]
  show Flow.go { s.skipBy s.skipType s.skipPmv (s.slc.mba + (n + 1) + 1) (s.slc.mbaInc - (n + 1) - 1) m with ctx := .mbType } = _
  rw [hleft]
  rfl

end Samples

-- ---------------------------------------------------------------- the increments of table MBA (R612)

section Increments
variable {s : State} {r : Instr × Nat × Nat}

/-- The state after a code word of `len` bits that ends an increment with the value `v` (R612). -/
def State.incremented (s : State) (len v : Nat) : State :=
  (s.consume len).onSlc fun x => { x with mbaInc := x.mbaInc + v }

theorem exec_mba_first (hr : r ∈ mbaRows) (hc : s.ctx = .mba true) :
    exec r.1 s = (s.incremented r.2.1 r.2.2).firstMacroblock.finish := by
  rw [exec_mbaRows r hr, mbaCode, hc]
  rfl

theorem exec_mba_next (hr : r ∈ mbaRows) (hc : s.ctx = .mba false) :
    exec r.1 s = (s.incremented r.2.1 r.2.2).nextMacroblocks.finish := by
  rw [exec_mbaRows r hr, mbaCode, hc]
  rfl

end Increments

-- ---------------------------------------------------------------- the two picture types (R452, R547)

section Runs
variable {s : State} {n : Nat}

/-- In a P picture the skipped macroblocks predict forward with vector (0, 0). -/
theorem State.skipAt_still (h2 : s.pic.picture_coding_type = 2) (k : Nat) (m : Memory) :
    (s.skipAt k m).StillForward := by
  have hfor : (s.skipAt k m).predictsForward = true := State.predictsForward_iff.2 (.inr h2)
  rw [State.skipAt, State.skipType_of_P h2, State.skipPmv_of_P h2] at hfor ⊢
  exact ⟨rfl, rfl, hfor, rfl, rfl⟩

/-- In a P picture over a written forward reference the run copies it (R452, R547). -/
theorem State.skip_run_of_P (h2 : s.pic.picture_coding_type = 2) (ha : s.inst.allocated = some (s.width, s.height))
    (hne : s.inst.curIdx ≠ s.inst.fwdIdx) (hinc : s.slc.mbaInc = n + 2) (hm : s.slc.mba + (n + 2) < s.mbCount)
    (hw : ∀ a, s.slc.mba < a → a < s.slc.mba + (n + 2) → s.MbWritten s.inst.fwdIdx a) :
    ∃ m, s.nextMacroblocks = .go { s.skipBy ⟨false, true, false, false, false⟩ (zeroForwardPmv s.slc.pmv)
        (s.slc.mba + (n + 2)) 0 m with ctx := .mbType } ∧
      (∀ a c row col, s.slc.mba < a → a < s.slc.mba + (n + 2) → row < mbPlaneWidth c → col < mbPlaneWidth c →
        m.read (s.mbAddr s.inst.curIdx a c row col) = s.mbSample s.inst.fwdIdx a c row col) ∧
      (∀ x, (∀ a, s.slc.mba < a → a < s.slc.mba + (n + 2) → s.OutsideMb s.inst.curIdx a x) →
        m.read x = s.inst.fb.read x) := by
  have hcan : s.CanSkip (n + 1) :=
    ⟨.inl h2, ha, by omega, hne.symm, fun hb => by rw [State.skipType_of_P h2] at hb; cases hb⟩
  have hpred : ∀ k, 1 ≤ k → k ≤ n + 1 → ∃ p, (s.skipAt k s.inst.fb).prediction = .ok (some p, none) ∧
      (s.skipAt k s.inst.fb).predictDirection false s.inst.fwdIdx = .ok p := fun k hk hkn =>
    (State.skipAt_still h2 k s.inst.fb).prediction ⟨ha, show s.slc.mba + k < s.mbCount by omega⟩
      (hw (s.slc.mba + k) (by omega) (by omega))
  obtain ⟨m, hgo, hread, hout⟩ := hcan.nextMacroblocks hinc hm fun k hk hkn => by
    obtain ⟨p, hp, -⟩ := hpred k hk hkn
    exact ⟨_, hp⟩
  rw [State.skipType_of_P h2, State.skipPmv_of_P h2] at hgo
  refine ⟨m, hgo, fun a c row col hlo hhi hr hc => ?_, fun x hx => hout x fun k hk hkn => ?_⟩
  · obtain ⟨k, rfl⟩ : ∃ k, a = s.slc.mba + k := ⟨a - s.slc.mba, by omega⟩
    obtain ⟨p, hp, hdir⟩ := hpred k (by omega) (by omega)
    exact (hread k _ (by omega) (by omega) hp c row col hr hc).trans
      ((State.skipAt_still h2 k s.inst.fb).sample ⟨ha, show s.slc.mba + k < s.mbCount by omega⟩ (hw _ hlo hhi) hdir hr hc)
  · exact hx _ (by omega) (by omega)

/-- The state whose prediction a skipped macroblock of a B picture is written with. -/
def State.skippedInB (s : State) (a : Nat) : State :=
  { s with
    slc := { s.slc with mba := a }, mb := { s.mb with motionType := .frame, mbType := s.mb.prevMbType.directions } }

theorem State.prediction_skipAt_of_B (h3 : s.pic.picture_coding_type = 3) (k : Nat) :
    (s.skipAt k s.inst.fb).prediction = (s.skippedInB (s.slc.mba + k)).prediction := by
  rw [State.skipAt, State.skipType_of_B h3, State.skipPmv_of_B h3]
  exact State.prediction_congr rfl rfl fun _ => rfl

/-- In a B picture the run is written as its predictions, with the directions and vectors as they stand (R452). -/
theorem State.skip_run_of_B (h3 : s.pic.picture_coding_type = 3) (hdir : s.mb.prevMbType.directions.predicted = true)
    (ha : s.inst.allocated = some (s.width, s.height)) (hf : s.inst.curIdx ≠ s.inst.fwdIdx)
    (hb : s.inst.curIdx ≠ s.inst.bwdIdx) (hinc : s.slc.mbaInc = n + 2) (hm : s.slc.mba + (n + 2) < s.mbCount)
    (hp : ∀ a, s.slc.mba < a → a < s.slc.mba + (n + 2) → ∃ p, (s.skippedInB a).prediction = .ok p) :
    ∃ m, s.nextMacroblocks = .go { s.skipBy s.mb.prevMbType.directions s.slc.pmv (s.slc.mba + (n + 2)) 0 m with
        ctx := .mbType } ∧
      (∀ a p c row col, s.slc.mba < a → a < s.slc.mba + (n + 2) → row < mbPlaneWidth c → col < mbPlaneWidth c →
        (s.skippedInB a).prediction = .ok p →
        m.read (s.mbAddr s.inst.curIdx a c row col) = some (BitVec.ofNat 8 (min 255 (predAt p c row col)))) ∧
      (∀ x, (∀ a, s.slc.mba < a → a < s.slc.mba + (n + 2) → s.OutsideMb s.inst.curIdx a x) →
        m.read x = s.inst.fb.read x) := by
  have hcan : s.CanSkip (n + 1) := ⟨.inr ⟨h3, hdir⟩, ha, by omega, hf.symm, fun _ => hb.symm⟩
  obtain ⟨m, hgo, hread, hout⟩ := hcan.nextMacroblocks hinc hm fun k hk hkn => by
    obtain ⟨p, hpa⟩ := hp (s.slc.mba + k) (by omega) (by omega)
    exact ⟨p, (State.prediction_skipAt_of_B h3 k).trans hpa⟩
  rw [State.skipType_of_B h3, State.skipPmv_of_B h3] at hgo
  refine ⟨m, hgo, fun a p c row col hlo hhi hr hc hpa => ?_, fun x hx => hout x fun k hk hkn => ?_⟩
  · obtain ⟨k, rfl⟩ : ∃ k, a = s.slc.mba + k := ⟨a - s.slc.mba, by omega⟩
    exact hread k p (by omega) (by omega) ((State.prediction_skipAt_of_B h3 k).trans hpa) c row col hr hc
  · exact hx _ (by omega) (by omega)

end Runs

/-- Settles O29: the run of `skip_run_of_P` or `skip_run_of_B`, after the increment's code word. -/
theorem skipRunsPredict : Obligations.SkipRunsPredict := by
  refine ⟨fun r hr s hc hinc hm h2 ha hne hw => ?_, fun r hr s hc hinc hm h3 hdir ha hf hb hp => ?_⟩
  · obtain ⟨n, hn⟩ : ∃ n, s.slc.mbaInc + r.2.2 = n + 2 := ⟨s.slc.mbaInc + r.2.2 - 2, by omega⟩
    rw [hn] at hm hw ⊢
    obtain ⟨m, hgo, hread, hout⟩ := State.skip_run_of_P (s := s.incremented r.2.1 r.2.2) h2 ha hne hn hm hw
    refine ⟨m, ?_, hread, hout⟩
    rw [exec_mba_next hr hc, hgo]
    rfl
  · obtain ⟨n, hn⟩ : ∃ n, s.slc.mbaInc + r.2.2 = n + 2 := ⟨s.slc.mbaInc + r.2.2 - 2, by omega⟩
    rw [hn] at hm hp ⊢
    have hpred : s.mb.prevMbType.directions.predicted = true := Bool.or_eq_true_iff.2 hdir
    have hsame : ∀ a, ((s.incremented r.2.1 r.2.2).skippedInB a).prediction = (s.skippedInB a).prediction :=
      fun a => State.prediction_congr rfl rfl fun _ => rfl
    obtain ⟨m, hgo, hread, hout⟩ := State.skip_run_of_B (s := s.incremented r.2.1 r.2.2) h3 hpred ha hf hb hn hm
      fun a hlo hhi => by
        obtain ⟨p, hpa⟩ := hp a hlo hhi
        exact ⟨p, (hsame a).trans hpa⟩
    refine ⟨m, ?_, fun a p c row col hlo hhi hrow hcol hpa => ?_, hout⟩
    · rw [exec_mba_next hr hc, hgo]
      rfl
    · exact hread a p c row col hlo hhi hrow hcol ((hsame a).trans hpa)

end Sys2Proof.Machine
end

section
/-! PROOFS. Motion codes (R237, R436, R437, R442): the bits a code takes, the component it writes, and what is due after it. -/

namespace Sys2Proof.Machine

-- ---------------------------------------------------------------- the fields of a motion code

section Fields
variable {s : State} {v d t : Bool} {m : Nat}

/-- The signed code of magnitude `m`, whose sign bit is next unless it is 0 (R237). -/
def State.motionSign (s : State) (m : Nat) : Int :=
  if m = 0 then 0 else if s.bit false s.cmd.bp then -(m : Int) else m

/-- The residual of `rs` bits after the sign bit (R437). -/
def State.motionResidual (s : State) (m rs : Nat) : Nat :=
  if m = 0 ∨ rs = 0 then 0 else (s.consume 1).bitRead false (s.cmd.bp + 1) rs

/-- The bits of both. -/
def motionBits (m rs : Nat) : Nat := if m = 0 then 0 else 1 + rs

theorem fld_one_eq_one {rd : Nat → Bool} {p : Nat} : fld rd p 1 = 1 ↔ rd p = true := by
  cases h : rd p <;> simp [fld, h]

theorem State.motionSign_eq (hm : m ≠ 0) : signed (decide ((s.getBits 1).1 = 1)) m = s.motionSign m := by
  have hbit : (s.getBits 1).1 = 1 ↔ s.bit false s.cmd.bp = true := fld_one_eq_one
  simp only [signed, State.motionSign, hm, hbit, if_false, Bool.decide_eq_true]

theorem State.consume_consume (s : State) (k n : Nat) : (s.consume k).consume n = s.consume (k + n) := by
  show s.setBp (s.cmd.bp + k + n) = s.setBp (s.cmd.bp + (k + n))
  rw [Nat.add_assoc]

/-- A motion code reads its sign and residual and writes its component (R437). -/
theorem State.motionCode_reads (s : State) (v d t : Bool) (m : Nat) :
    s.motionCode v d t m =
      ((s.consume (motionBits m (s.fCode d t - 1))).onSlc fun x => x.setPmv v d t
        (s.newVector v d t (s.motionSign m) (s.motionResidual m (s.fCode d t - 1)))).afterMotion v d t := by
  unfold State.motionCode
  dsimp only
  by_cases hm : m = 0
  · subst hm
    rfl
  · simp only [if_neg hm, State.motionSign_eq hm, motionBits, State.motionResidual]
    by_cases hrs : s.fCode d t - 1 = 0
    · simp only [hrs, or_true, if_true]
      rfl
    · simp only [hm, hrs, or_false, if_false, ← State.consume_consume]
      rfl

/-- The vertical component of a field vector is halved before and doubled after (R442). -/
theorem State.newVector_eq (s : State) (v d t : Bool) (code : Int) (res : Nat) :
    s.newVector v d t code res =
      if t = true ∧ s.mb.mvScale = true then
        decodeVector (((s.slc.pmv.get v).get d).get t / 2) code res (s.fCode d t - 1) (s.fullPel d) * 2
      else decodeVector (((s.slc.pmv.get v).get d).get t) code res (s.fCode d t - 1) (s.fullPel d) := by
  simp only [State.newVector, Bool.and_eq_true]
  rfl

end Fields

-- ---------------------------------------------------------------- what is due after a component (R436)

/-- What is due after component `t` of vector `v` of direction `d` is written (R436, R437, R454). -/
def State.MotionDue (s : State) (v d t : Bool) (o : Host.Outcome State Fault Refusal) : Prop :=
  (t = false → s.FCodeOk d true → o = .next { s with ctx := .motionCode v d true }) ∧
  (t = false → ¬ s.FCodeOk d true → o = .next (takeCorrupt .invalidFCode s)) ∧
  (t = true → s.mb.mvCount = 1 → d = false → (s.onSlc fun x => x.copyPmv d).BackwardDue o) ∧
  (t = true → s.mb.mvCount = 1 → d = true → s.concealed = false → (s.onSlc fun x => x.copyPmv d).PatternDue o) ∧
  (t = true → s.mb.mvCount = 2 → v = false → o = .next { s with ctx := .fieldSelect true d }) ∧
  (t = true → s.mb.mvCount = 2 → v = true → d = false → s.BackwardDue o) ∧
  (t = true → s.mb.mvCount = 2 → v = true → d = true → s.concealed = false → s.PatternDue o)

theorem State.afterMotion_single {s : State} {v d : Bool} (h : s.mb.mvCount = 1) :
    s.afterMotion v d true = (s.onSlc fun x => x.copyPmv d).vectorsDone d := by
  simp only [State.afterMotion, h, Bool.true_eq_false, if_false, if_true]

theorem State.afterMotion_first {s : State} {d : Bool} (h : s.mb.mvCount = 2) :
    s.afterMotion false d true = .go (s.setCtx (.fieldSelect true d)) := by
  simp [State.afterMotion, h]

theorem State.afterMotion_second {s : State} {d : Bool} (h : s.mb.mvCount = 2) :
    s.afterMotion true d true = s.vectorsDone d := by
  simp [State.afterMotion, h]

theorem State.vectorsDone_forward (s : State) : s.BackwardDue (s.vectorsDone false).finish := s.backwardVectors_due

theorem State.vectorsDone_backward {s : State} (h : s.concealed = false) :
    s.PatternDue (s.vectorsDone true).finish :=
  s.afterVectors_due.2 h

theorem State.afterMotion_due (s : State) (v d t : Bool) : s.MotionDue v d t (s.afterMotion v d t).finish := by
  refine ⟨fun ht hf => ?_, fun ht hf => ?_, fun ht h1 hd => ?_, fun ht h1 hd hcon => ?_, fun ht h2 hv => ?_,
    fun ht h2 hv hd => ?_, fun ht h2 hv hd hcon => ?_⟩ <;> subst ht
  · exact congrArg Flow.finish ((s.enterMotion_eq v d true).1 hf)
  · exact congrArg Flow.finish ((s.enterMotion_eq v d true).2 hf)
  · subst hd
    rw [State.afterMotion_single h1]
    exact State.vectorsDone_forward _
  · subst hd
    rw [State.afterMotion_single h1]
    exact State.vectorsDone_backward hcon
  · subst hv
    rw [State.afterMotion_first h2]
    rfl
  · subst hv hd
    rw [State.afterMotion_second h2]
    exact State.vectorsDone_forward _
  · subst hv hd
    rw [State.afterMotion_second h2]
    exact State.vectorsDone_backward hcon

/-- Settles O33: a code writes its component (`motionCode_reads`), and `afterMotion` makes the next field due. -/
theorem motionCodes : Obligations.MotionCodes := by
  intro r hr s v d t hc m rs a code res n fp old new s1 s2
  have hexec : exec r.1 s = (s1.afterMotion v d t).finish := by
    rw [exec_mvRows r hr, mvCode, hc]
    show (a.motionCode v d t m).finish = _
    rw [State.motionCode_reads, State.newVector_eq, State.consume_consume]
    rfl
  rw [hexec]
  exact s1.afterMotion_due v d t

end Sys2Proof.Machine
end

section
/-! PROOFS. The other elements of a macroblock: addresses (R611 to R614), types and modes (R430, R431), field selects, the
marker, the pattern (R445), blocks (R372 to R381), and the forbidden values (R665). -/

namespace Sys2Proof.Machine

-- ---------------------------------------------------------------- address increments (R611, R614)

/-- An escape adds 33 (R612). -/
theorem exec_mba_escape {s : State} {first : Bool} (hc : s.ctx = .mba first) :
    exec .MBA_ESC s = .next ((s.consume 11).onSlc fun x => { x with mbaInc := x.mbaInc + 33 }) := by
  have h : exec .MBA_ESC s = (mbaEscape 11 s).finish := rfl
  rw [h, mbaEscape, hc]
  rfl

/-- Settles O26: the two branches of `firstMacroblock`. -/
theorem firstMacroblockAddress : Obligations.FirstMacroblockAddress := by
  refine ⟨fun r hr s hc => ⟨fun hrow ha => ?_, fun hout => ?_⟩, fun s first hc => exec_mba_escape hc⟩
  · rw [exec_mba_first hr hc, State.firstMacroblock]
    refine (congrArg Flow.finish (if_neg ?_)).trans rfl
    exact not_or.2 ⟨Nat.not_le.2 hrow, Nat.not_le.2 ha⟩
  · rw [exec_mba_first hr hc, State.firstMacroblock]
    exact (congrArg Flow.finish (if_pos hout)).trans rfl

theorem State.nextMacroblocks_one {s : State} (hinc : s.slc.mbaInc = 1) (hm : s.slc.mba + 1 < s.mbCount) :
    s.nextMacroblocks = .go s.advance.startMacroblock := by
  rw [State.nextMacroblocks, hinc, if_neg (by omega)]
  rfl

theorem State.nextMacroblocks_overflow {s : State} (h : s.mbCount ≤ s.slc.mba + s.slc.mbaInc) :
    s.nextMacroblocks = .corrupt .mbAddressOverflow s := if_pos h

/-- Settles O27: an increment of 1 skips nothing, and the grid is checked first. -/
theorem nextMacroblockAddress : Obligations.NextMacroblockAddress := by
  refine fun r hr s hc => ⟨fun hinc hm => ?_, fun hout => ?_⟩
  · rw [exec_mba_next hr hc, State.nextMacroblocks_one (s := s.incremented r.2.1 r.2.2) hinc hm]
    have hzero : s.slc.mbaInc + r.2.2 - 1 = 0 := by omega
    show Host.Outcome.next { s.consume r.2.1 with
      ctx := .mbType, slc := { s.slc with mba := s.slc.mba + 1, mbaInc := s.slc.mbaInc + r.2.2 - 1 },
      mb := { s.mb with blk := zeroBlk } } = _
    rw [hzero]
    rfl
  · rw [exec_mba_next hr hc, State.nextMacroblocks_overflow (s := s.incremented r.2.1 r.2.2) hout]
    rfl

/-- The registers R452 writes before a skip without prediction is found. -/
def State.skipDenied (s : State) (f : MbFlags) : State :=
  { s with
    slc := { s.slc with dcPred := Triple.const (dcReset s.pic.intra_dc_precision) },
    mb := { s.mb with
      blk := zeroBlk, cbp := 0, motionType := .frame, mvCount := 1, mvFormat := .frame, mvScale := false,
      dctType := false, mbType := f } }

theorem State.skippedMacroblock_denied {s : State} (h2 : s.pic.picture_coding_type ≠ 2)
    (h3 : s.pic.picture_coding_type = 3 → s.mb.prevMbType.f = false ∧ s.mb.prevMbType.b = false) :
    s.skippedMacroblock = .corrupt .skipWithoutPrediction (s.skipDenied
      (if s.pic.picture_coding_type = 3 then ⟨false, false, false, false, false⟩ else s.mb.mbType)) := by
  unfold State.skippedMacroblock
  rw [if_neg h2]
  by_cases hB : s.pic.picture_coding_type = 3
  · obtain ⟨hf, hb⟩ := h3 hB
    have hdir : s.mb.prevMbType.directions = ⟨false, false, false, false, false⟩ := by
      simp only [MbFlags.directions, hf, hb]
    rw [if_pos hB, if_pos hB, hdir]
    rfl
  · rw [if_neg hB, if_neg hB]
    rfl

/-- A run of at least one skip stops at the first when it has no prediction direction. -/
theorem State.nextMacroblocks_denied {s : State} (hinc : 2 ≤ s.slc.mbaInc) (hm : s.slc.mba + s.slc.mbaInc < s.mbCount)
    (h2 : s.pic.picture_coding_type ≠ 2)
    (h3 : s.pic.picture_coding_type = 3 → s.mb.prevMbType.f = false ∧ s.mb.prevMbType.b = false) :
    s.nextMacroblocks = .corrupt .skipWithoutPrediction (s.advance.skipDenied
      (if s.pic.picture_coding_type = 3 then ⟨false, false, false, false, false⟩ else s.mb.mbType)) := by
  obtain ⟨n, hn⟩ : ∃ n, s.slc.mbaInc - 1 = n + 1 := ⟨s.slc.mbaInc - 2, by omega⟩
  rw [State.nextMacroblocks, if_neg (Nat.not_le.2 hm), hn, State.skipRun,
    State.skippedMacroblock_denied (s := s.advance) h2 h3]
  rfl

/-- Settles O28: the first skipped macroblock of the run is denied. -/
theorem skipWithoutPrediction : Obligations.SkipWithoutPrediction := by
  intro r hr s hc inc dc hinc hm h2 h3
  rw [exec_mba_next hr hc, State.nextMacroblocks_denied (s := s.incremented r.2.1 r.2.2) hinc hm h2 h3]
  rfl

-- ---------------------------------------------------------------- types and modes (R430, R431)

/-- The type is stored (R430). -/
def State.withType (s : State) (f : MbFlags) : State := s.onMb fun m => { m with mbType := f }

theorem State.setType_eq (s : State) (f : MbFlags) :
    s.setType f =
      if f.f || f.b then
        if s.pic.frame_pred_frame_dct then (s.withType f).setMotionType .frame
        else .go ((s.withType f).setCtx .frameMotionType)
      else if f.i && s.pic.concealment_motion_vectors then (s.withType f).setMotionType .frame
      else (s.withType f).setMotionType .none := rfl

/-- After a type the motion type follows from it, unless `frame_motion_type` is coded (R430). -/
theorem State.setType_due (s : State) (f : MbFlags) :
    let directed := f.f = true ∨ f.b = true
    (directed → s.pic.frame_pred_frame_dct = false →
      (s.setType f).finish = .next { s with ctx := .frameMotionType, mb := { s.mb with mbType := f } }) ∧
    (¬ (directed ∧ s.pic.frame_pred_frame_dct = false) →
      State.DctTypeDue
        { s with mb := { s.mb with
          mbType := f, mvCount := 1, mvFormat := .frame, mvScale := false, dctType := false,
          motionType :=
            if directed ∨ (f.i = true ∧ s.pic.concealment_motion_vectors = true) then .frame else .none } }
        (s.setType f).finish) := by
  intro directed
  have hdir : (f.f || f.b) = true ↔ directed := Bool.or_eq_true_iff
  rw [s.setType_eq f]
  refine ⟨fun hd hp => ?_, fun hn => ?_⟩
  · rw [if_pos (hdir.2 hd), hp]
    rfl
  · by_cases hd : directed
    · have hp : s.pic.frame_pred_frame_dct = true := Bool.of_not_eq_false fun h => hn ⟨hd, h⟩
      rw [if_pos (hdir.2 hd), if_pos hp, if_pos (.inl hd)]
      exact (s.withType f).setMotionType_due .frame
    · rw [if_neg (mt hdir.1 hd)]
      by_cases hcon : f.i = true ∧ s.pic.concealment_motion_vectors = true
      · rw [if_pos (Bool.and_eq_true_iff.2 hcon), if_pos (.inr hcon)]
        exact (s.withType f).setMotionType_due .frame
      · rw [if_neg (mt Bool.and_eq_true_iff.1 hcon), if_neg (not_or.2 ⟨hd, hcon⟩)]
        exact (s.withType f).setMotionType_due .none

/-- Settles O30: `setType_due` after the code word. -/
theorem macroblockTypes : Obligations.MacroblockTypes := by
  intro r hr s hc
  rw [exec_typeRows r hr, typeCode, hc]
  exact (s.consume r.2.1).setType_due r.2.2

/-- Settles O31: `setMotionType_due` for each value. -/
theorem frameMotionType : Obligations.FrameMotionType := by
  intro s hc
  have hexec : ∀ m, exec (.frame_motion_type m) s = (motionTypeField m s).finish := fun _ => rfl
  rw [hexec, hexec, motionTypeField, motionTypeField, hc]
  exact ⟨(s.consume 2).setMotionType_due .field, (s.consume 2).setMotionType_due .frame⟩

/-- Settles O32: `afterModes_due` and `forwardVectors_due`. -/
theorem dctTypeAndQuantiser : Obligations.DctTypeAndQuantiser := by
  refine fun s => ⟨fun t hc => ?_, fun q hc hq => ?_⟩
  · have hexec : exec (.dct_type t) s = (dctTypeField t s).finish := rfl
    rw [hexec, dctTypeField, hc]
    exact State.afterModes_due _
  · have hexec : exec (.macroblock_quantiser_scale_code q) s = (mbQuantField q s).finish := rfl
    rw [hexec, mbQuantField, hc]
    dsimp only
    rw [if_neg hq]
    exact State.forwardVectors_due _

/-- Settles O34: `enterMotion_eq` and `afterMarker_due`. -/
theorem fieldSelectAndMarker : Obligations.FieldSelectAndMarker := by
  refine ⟨fun s v d f hc => ?_, fun s b hc => ?_⟩
  · have hexec : exec (.motion_vertical_field_select f) s = (fieldSelectField f s).finish := rfl
    rw [hexec, fieldSelectField, hc]
    obtain ⟨hin, hout⟩ := ((s.consume 1).onSlc fun x => x.setMvfs v d f).enterMotion_eq v d false
    exact ⟨fun hf => congrArg Flow.finish (hin hf), fun hf => congrArg Flow.finish (hout hf)⟩
  · have hexec : exec (.concealment_marker_bit b) s = (markerField s).finish := rfl
    rw [hexec, markerField, hc]
    exact State.afterMarker_due _

-- ---------------------------------------------------------------- the pattern and the blocks (R445, R446)

/-- The first element of the next coded block (R370, R374, R446). -/
theorem State.nextBlock_some {s : State} {n : Nat} {k : Fin 6} (h : firstCoded s.mb.cbp n = some k) :
    (s.mb.mbType.i = true → (s.nextBlock n).finish = .next { s with ctx := .dcSize k }) ∧
    (s.mb.mbType.i = false →
      (s.nextBlock n).finish = .next { s with ctx := .coef k true, mb := { s.mb with coefIdx := -1 } }) := by
  rw [State.nextBlock, h]
  refine ⟨fun hi => ?_, fun hi => ?_⟩
  · simp only [State.startBlock, hi, if_true]
    rfl
  · simp only [State.startBlock, hi, Bool.false_eq_true, if_false]
    rfl

/-- Settles O35: the first coded block of the pattern is due. -/
theorem codedBlockPattern : Obligations.CodedBlockPattern := by
  intro r hr s i hc hcoded hfirst
  rw [exec_cbpRows r hr, cbpCode, hc]
  exact State.nextBlock_some (s := (s.consume r.2.1).onMb fun m => { m with cbp := r.2.2 }) (n := 0)
    (firstCoded_eq_some (Nat.zero_le _) hcoded fun j _ hj => hfirst j hj)

end Sys2Proof.Machine

namespace Sys2Proof
open Machine

/-- Settles O39: coefficient control, then the next coded block. -/
theorem endOfBlock : Obligations.EndOfBlock := by
  intro e he s i k first hc hik hcoded hbetween
  rw [exec_endOfBlock e he, Machine.endOfBlock, hc]
  have hnext : firstCoded ((s.consume e.2).coefControl i).mb.cbp (i.val + 1) = some k := by
    rw [State.coefControl_eq]
    exact firstCoded_eq_some hik hcoded fun j hj hjk => hbetween j hj hjk
  have h := State.nextBlock_some hnext
  dsimp only
  rw [State.coefControl_eq] at h ⊢
  exact h

end Sys2Proof

namespace Sys2Proof.Machine

-- ---------------------------------------------------------------- coefficients (R372 to R374)

/-- Settles O36: the size's value or the differential's goes to `putDc`. -/
theorem dcCoefficients : Obligations.DcCoefficients := by
  refine fun s i => ⟨fun r hr hc => ?_, fun size v hc hsize hv => ?_⟩
  · rw [exec_dcSizeRows r hr, dcSizeCode, hc]
    dsimp only
    refine ⟨fun h => ?_, fun h => ?_⟩
    · rw [if_neg h]
      rfl
    · rw [if_pos h]
      rfl
  · have hexec : exec (.dct_dc_differential size v) s = (dcDiffField size v s).finish := rfl
    have hvalue : dcValue size v = if v < 2 ^ (size - 1) then (v : Int) - (2 ^ size - 1) else v := if_neg (by omega)
    rw [hexec, dcDiffField, hc]
    dsimp only
    rw [if_pos rfl, hvalue]
    rfl

/-- The position of coefficient `idx` of the scan (R383). -/
def State.scanned (s : State) (idx : Int) : Nat :=
  (if s.pic.alternate_scan then alternateScan else zigzagScan).getD idx.toNat 0

/-- The state after coefficient `idx` of block `i` is written with the value `v` (R374). -/
def State.coefWritten (s : State) (i : Fin 6) (idx v : Int) : State :=
  { s with
    ctx := .coef i false,
    mb := { s.mb with
      coefIdx := idx, blk := s.mb.blk.set i.val ((s.mb.blk.getD i.val []).set (s.scanned idx) v) } }

/-- The dequantised value of a level of magnitude `m` (R379, R380), the sign put back. -/
def State.dequantised (s : State) (neg : Bool) (m j : Nat) : Int :=
  let mag : Nat :=
    if s.mb.mbType.i then (m * s.slc.quantiserScale * (s.seq.intraQ.getD j 0).toNat) / 16
    else ((2 * m + 1) * s.slc.quantiserScale * (s.seq.nonIntraQ.getD j 0).toNat) / 32
  if neg then -(mag : Int) else mag

theorem State.dequant_weight (s : State) (neg : Bool) {m : Nat} (hm : 0 < m) (j : Nat) :
    dequant s.mb.mbType.i (signed neg m) s.slc.quantiserScale (s.weight j) = s.dequantised neg m j := by
  rw [dequant_signed _ _ hm, State.weight, State.dequantised]
  cases s.mb.mbType.i <;> rfl

/-- A coefficient advances the index, is checked, and is written at the scanned position (R374). -/
theorem State.putCoef_cases (s : State) (i : Fin 6) (run : Nat) (neg : Bool) {m : Nat} (hm : 0 < m) :
    let idx : Int := s.mb.coefIdx + run + 1
    (64 ≤ idx → (s.putCoef i run (signed neg m)).finish =
      .next (takeCorrupt .coefIndexOverflow { s with mb := { s.mb with coefIdx := idx } })) ∧
    (idx < 64 → (s.putCoef i run (signed neg m)).finish =
      .next (s.coefWritten i idx (s.dequantised neg m (s.scanned idx)))) := by
  intro idx
  refine ⟨fun h => (congrArg Flow.finish (if_pos h)).trans rfl, fun h => ?_⟩
  rw [← s.dequant_weight neg hm]
  exact (congrArg Flow.finish (if_neg (not_le.2 h))).trans rfl

theorem level_pos : ∀ r ∈ coefRows, 0 < r.2.2.2 := by
  have h : coefRows.all (fun r => decide (0 < r.2.2.2)) = true := by decide
  simpa using h

/-- Settles O37: `putCoef_cases` after the code word and its sign bit. -/
theorem coefficients : Obligations.Coefficients := by
  intro r hr s i first sgn hc _
  rw [exec_coefRows r hr, coefCode, hc]
  exact (s.consume (r.2.1 + 1)).putCoef_cases i r.2.2.1 sgn (level_pos r hr)

/-- An escape's level is its magnitude with its sign (R243). -/
theorem escapeLevel_eq_signed (level : BitVec 12) :
    escapeLevel level = signed (decide (level.toInt < 0)) level.toInt.natAbs := by
  rw [escapeLevel_eq_toInt, signed]
  split <;> rename_i h <;> rw [decide_eq_true_eq] at h <;> omega

/-- The rows of the two escapes. -/
theorem exec_escape : ∀ e ∈ [Instr.DCT0_ESC, Instr.DCT1_ESC], ∀ run level s,
    exec (e run level) s = (escapeCode 6 run level s).finish :=
  List.forall_mem_cons.2 ⟨fun _ _ _ => rfl, List.forall_mem_cons.2 ⟨fun _ _ _ => rfl, List.forall_mem_nil _⟩⟩

/-- Settles O38: `putCoef_cases` with the level of the escape. -/
theorem escapedCoefficients : Obligations.EscapedCoefficients := by
  intro e he s i first run level hc _ h0 h2048 v idx j mag
  have hallowed : forbiddenEscape level = false :=
    Bool.or_eq_false_iff.2 ⟨beq_eq_false_iff_ne.2 h0, beq_eq_false_iff_ne.2 h2048⟩
  have hpos : 0 < level.toInt.natAbs := Int.natAbs_pos.2 fun h => h0 (BitVec.toInt_inj.1 (h.trans rfl))
  have hexec : exec (e run level) s =
      ((s.consume 24).putCoef i run.toNat (signed (decide (level.toInt < 0)) level.toInt.natAbs)).finish := by
    rw [exec_escape e he, escapeCode, hc]
    dsimp only
    rw [hallowed, escapeLevel_eq_signed]
    rfl
  have h := (s.consume 24).putCoef_cases i run.toNat (decide (level.toInt < 0)) hpos
  rw [hexec]
  simp only [State.dequantised, decide_eq_true_eq] at h
  exact h

-- ---------------------------------------------------------------- forbidden values (R665)

/-- Settles O14: each field's test stands before its effect. -/
theorem forbiddenFieldValues : Obligations.ForbiddenFieldValues := by
  refine fun s => ⟨fun hc => ?_, fun hc => ?_, fun hc => ⟨?_, ?_⟩, fun i first run level hc hlevel => ?_⟩
  · have hexec : exec (.slice_header_fields__no_intra_slice 0) s = (sliceHeaderFields 0 1 s).finish := rfl
    rw [hexec, sliceHeaderFields, hc]
    rfl
  · have hexec : exec (.macroblock_quantiser_scale_code 0) s = (mbQuantField 0 s).finish := rfl
    rw [hexec, mbQuantField, hc]
    rfl
  · have hexec : exec (.frame_motion_type 0) s = (motionTypeField 0 s).finish := rfl
    rw [hexec, motionTypeField, hc]
    rfl
  · have hexec : exec (.frame_motion_type 3) s = (motionTypeField 3 s).finish := rfl
    rw [hexec, motionTypeField, hc]
    rfl
  · have hforbidden : forbiddenEscape level = true := by simpa [forbiddenEscape] using hlevel
    have hexec : ∀ e ∈ [Instr.DCT0_ESC, Instr.DCT1_ESC],
        exec (e run level) s = .next (takeCorrupt .invalidEscape (s.consume 24)) := by
      intro e he
      rw [exec_escape e he, escapeCode, hc]
      dsimp only
      rw [hforbidden]
      rfl
    exact ⟨hexec _ (List.mem_cons_self ..), hexec _ (List.mem_cons_of_mem _ (List.mem_cons_self ..))⟩

end Sys2Proof.Machine
end

section
/-! PROOFS. Start codes (R592, R597): what each one does at the top of `decode`, in the slice loop, after a picture's
extensions and while slices are skipped, and what the end of the buffer does there. -/

namespace Sys2Proof.Machine

-- ---------------------------------------------------------------- the code bytes (R152)

/-- A slice code is none of the codes with a name. -/
theorem isSliceCode_ne {v c : Byte} (hv : isSliceCode v = true) (hc : isSliceCode c = false) : v ≠ c := by
  rintro rfl
  rw [hv] at hc
  cases hc

theorem isSliceCode_system {c : Byte} (h : 0xB9 ≤ c.toNat) : isSliceCode c = false := by
  simp only [isSliceCode, Bool.and_eq_false_iff, decide_eq_false_iff_not]
  omega

theorem OtherStartCode.not_slice {i : Instr} {c : Byte} (h : OtherStartCode i c) : isSliceCode c = false := by
  obtain h | ⟨-, h⟩ := h
  · exact (by decide : ∀ r ∈ startCodeRows, isSliceCode r.2 = false) _ h
  · exact isSliceCode_system h

theorem OtherStartCode.eq_header {i : Instr} (h : OtherStartCode i 0xB3) : i = .sequence_header_code := by
  obtain h | ⟨-, h⟩ := h
  · have hrows : ∀ r ∈ startCodeRows, r.2 = 0xB3 → r.1 = .sequence_header_code := by decide
    exact hrows _ h rfl
  · exact absurd h (by decide)

-- ---------------------------------------------------------------- where a code leads

/-- A slice start code is its code byte, as any other start code is. -/
theorem exec_sliceStartCode (v : Byte) (s : State) : exec (.slice_start_code v) s = (startCodeElem v s).finish := rfl

section Places
variable {s : State} {i : Instr} {c : Byte}

/-- `i` is executed as the start code of byte `c`. -/
def RunsCode (i : Instr) (c : Byte) : Prop := ∀ s, exec i s = (startCodeElem c s).finish

theorem OtherStartCode.runsCode (h : OtherStartCode i c) : RunsCode i c := exec_otherStartCode h

theorem RunsCode.at_top (h : RunsCode i c) (hc : s.ctx = .startCode .top) : exec i s = .next ((s.consume 32).topCode c) := by
  rw [h, startCodeElem, hc]
  rfl

theorem RunsCode.at_slices (h : RunsCode i c) (hc : s.ctx = .startCode .slices) :
    exec i s = .next ((s.consume 32).sliceLoop c) := by
  rw [h, startCodeElem, hc]
  rfl

theorem RunsCode.at_skipSlices (h : RunsCode i c) (hc : s.ctx = .startCode .skipSlices) :
    exec i s = .next ((s.consume 32).skipLoop c) := by
  rw [h, startCodeElem, hc]
  rfl

theorem RunsCode.at_picExt (h : RunsCode i c) (hc : s.ctx = .startCode .picExt) (h5 : c ≠ 0xB5) (h2 : c ≠ 0xB2) :
    exec i s = ((s.consume 32).afterExtensions (some c)).finish := by
  rw [h, startCodeElem, hc]
  dsimp only
  rw [if_neg h5, if_neg h2]

theorem State.scan_of_ctx {m : ScanMode} (h : s.ctx = .startCode m) : s.scan m = s := by
  rw [State.scan, State.setCtx, ← h]

end Places

-- ---------------------------------------------------------------- the top of decode (R592)

section Top
variable {s : State} {c : Byte}

theorem State.topCode_awaiting (hp : s.inst.phase = .awaitSequenceHeader) (hc : c ≠ 0xB3) : s.topCode c = s.scan .top :=
  if_pos ⟨hp, hc⟩

theorem State.topCode_header (s : State) : s.topCode 0xB3 = s.setCtx .seqHeader :=
  (if_neg fun h => h.2 rfl).trans rfl

/-- Past a sequence header the code alone decides. -/
theorem State.topCode_awake (hp : s.inst.phase ≠ .awaitSequenceHeader) (c : Byte) :
    s.topCode c =
      if c = 0xB3 then s.setCtx .seqHeader
      else if c = 0x00 then s.setCtx .picHeader
      else if c = 0xB5 then s.setCtx (.extId .top)
      else if c = 0xB2 then s.scan .top
      else if c = 0xB8 then s.setCtx .gop
      else if c = 0xB7 then ((s.log (.sequenceEnd (s.cmd.bp - 32))).setPhase .awaitSequenceHeader).scan .top
      else if isSliceCode c then (s.log (.skippedSlice (s.cmd.bp - 32))).scan .top
      else (s.log (.skippedCode c s.cmd.bp)).scan .top :=
  if_neg fun h => hp h.1

/-- The codes with a name at the top of `decode`. -/
def namedCodes : List Byte := [0xB3, 0x00, 0xB5, 0xB2, 0xB8, 0xB7]

theorem State.topCode_unnamed (hp : s.inst.phase ≠ .awaitSequenceHeader) (hc : c ∉ namedCodes) :
    s.topCode c =
      if isSliceCode c then (s.log (.skippedSlice (s.cmd.bp - 32))).scan .top
      else (s.log (.skippedCode c s.cmd.bp)).scan .top := by
  simp only [namedCodes, List.mem_cons, List.not_mem_nil, or_false, not_or] at hc
  obtain ⟨h1, h2, h3, h4, h5, h6⟩ := hc
  rw [State.topCode_awake hp, if_neg h1, if_neg h2, if_neg h3, if_neg h4, if_neg h5, if_neg h6]

theorem State.topCode_slice (hp : s.inst.phase ≠ .awaitSequenceHeader) (hv : isSliceCode c = true) :
    s.topCode c = (s.log (.skippedSlice (s.cmd.bp - 32))).scan .top := by
  have hn : c ∉ namedCodes := fun h =>
    isSliceCode_ne hv ((by decide : ∀ d ∈ namedCodes, isSliceCode d = false) c h) rfl
  rw [State.topCode_unnamed hp hn, if_pos hv]

/-- A code without a name that is no slice code is logged with its byte (R315). -/
theorem State.topCode_skipped (hp : s.inst.phase ≠ .awaitSequenceHeader) (hn : c ∉ namedCodes)
    (hs : isSliceCode c = false) : s.topCode c = (s.log (.skippedCode c s.cmd.bp)).scan .top := by
  rw [State.topCode_unnamed hp hn, hs]
  rfl

theorem system_not_named (h : 0xB9 ≤ c.toNat) : c ∉ namedCodes := by
  have hall : ∀ d ∈ namedCodes, d.toNat < 0xB9 := by decide
  exact fun hm => absurd h (Nat.not_le.2 (hall c hm))

end Top

theorem reservedCodeRows_skipped :
    ∀ r ∈ reservedCodeRows, r ∈ startCodeRows ∧ r.2 ∉ namedCodes ∧ isSliceCode r.2 = false := by decide

theorem State.consume_bp_sub (s : State) (n : Nat) : (s.consume n).cmd.bp - n = s.cmd.bp := Nat.add_sub_cancel _ _

/-- Settles O15: the top loop's answer for each code byte. -/
theorem topLevelStartCodes : Obligations.TopLevelStartCodes := by
  intro s hc
  have hscan : (s.consume 32).scan .top = s.consume 32 := State.scan_of_ctx hc
  have hlog : ∀ e, ((s.consume 32).log e).scan .top = (s.consume 32).log e := fun e => State.scan_of_ctx hc
  have hrow : ∀ i c, (i, c) ∈ startCodeRows → exec i s = .next ((s.consume 32).topCode c) := fun i c h =>
    RunsCode.at_top (exec_startCodeRows _ h) hc
  refine ⟨?_, fun hp => ⟨fun v hv => ?_, fun i c hi hne => ?_⟩, fun hp => ?_⟩
  · rw [hrow _ 0xB3 (by decide), State.topCode_header]
    rfl
  · rw [RunsCode.at_top (exec_sliceStartCode v) hc, State.topCode_awaiting (s := s.consume 32) hp
      (isSliceCode_ne hv (by decide)), hscan]
  · have hnot : c ≠ 0xB3 := by
      rintro rfl
      exact hne hi.eq_header
    rw [hi.runsCode.at_top hc, State.topCode_awaiting (s := s.consume 32) hp hnot, hscan]
  have hawake := State.topCode_awake (s := s.consume 32) hp
  refine ⟨?_, ?_, ?_, ?_, ?_, fun v hv => ?_, fun r hr => ?_, fun c h => ?_⟩
  · rw [hrow _ 0x00 (by decide), hawake]
    rfl
  · rw [hrow _ 0xB5 (by decide), hawake]
    rfl
  · rw [hrow _ 0xB2 (by decide), hawake]
    exact congrArg _ hscan
  · rw [hrow _ 0xB8 (by decide), hawake]
    rfl
  · rw [hrow _ 0xB7 (by decide), hawake, State.consume_bp_sub]
    exact congrArg Host.Outcome.next (State.scan_of_ctx hc)
  · rw [RunsCode.at_top (exec_sliceStartCode v) hc, State.topCode_slice (s := s.consume 32) hp hv, hlog,
      State.consume_bp_sub]
  · obtain ⟨hmem, hn, hs⟩ := reservedCodeRows_skipped r hr
    rw [hrow _ _ hmem, State.topCode_skipped (s := s.consume 32) hp hn hs, hlog]
    rfl
  · have hi : OtherStartCode (.system_start_code c) c := .inr ⟨rfl, h⟩
    rw [hi.runsCode.at_top hc,
      State.topCode_skipped (s := s.consume 32) hp (system_not_named h) (isSliceCode_system h), hlog]
    rfl

-- ---------------------------------------------------------------- the slice loop (R597, R605)

/-- Settles O16: a slice code starts its slice, and any other one ends the picture. -/
theorem sliceLoopStartCodes : Obligations.SliceLoopStartCodes := by
  refine fun s hc => ⟨fun v hv => ?_, fun i c hi => ?_⟩
  · rw [RunsCode.at_slices (exec_sliceStartCode v) hc, State.sliceLoop, if_pos hv]
    rfl
  · rw [hi.runsCode.at_slices hc, State.sliceLoop, hi.not_slice]
    show Host.Outcome.next ((s.consume 32).finishPicture true) = _
    unfold State.finishPicture
    rw [State.consume_bp_sub]
    rfl

-- ---------------------------------------------------------------- after a picture's extensions (R597, R336)

section AfterExtensions
variable {s : State}

/-- The f_codes of R336, where no picture coding extension was seen. -/
theorem State.picDefaults_eq (s : State) :
    (if s.pic.pceSeen then s else s.noPceDefaults) = { s with pic := s.picDefaults } := by
  unfold State.picDefaults
  cases h : s.pic.pceSeen <;> rfl

/-- The registers that decide are those of the picture header (R336). -/
theorem State.picDefaults_keeps (s : State) :
    s.picDefaults.picture_coding_type = s.pic.picture_coding_type ∧
      s.picDefaults.picture_structure = s.pic.picture_structure := by
  unfold State.picDefaults
  split <;> exact ⟨rfl, rfl⟩

/-- A structure other than 3 is refused (R331). -/
theorem State.afterExtensions_refused (hs : s.Supported) (h3 : s.pic.picture_structure ≠ 3) (c : Option Byte) :
    s.afterExtensions c = .refuse (.fieldPicture { s with pic := s.picDefaults }) := by
  unfold State.afterExtensions
  unfold State.Supported at hs
  rw [s.picDefaults_eq]
  dsimp only
  obtain ⟨htype, hstructure⟩ := s.picDefaults_keeps
  rw [htype, hstructure, if_pos hs, if_pos h3]

/-- The roles and the current buffer of a picture that begins (R601). -/
theorem State.startPicture_eq (hs : s.Supported) :
    ({ s with pic := s.picDefaults } : State).startPicture.setPhase .decodingSlices = { s.pictureBegun with ctx := s.ctx } := by
  obtain ⟨htype, -⟩ := s.picDefaults_keeps
  simp only [State.startPicture, State.onInst, State.setPhase, State.pictureBegun, htype]
  by_cases hB : s.pic.picture_coding_type = 3
  · have hnot : ¬ (s.pic.picture_coding_type = 1 ∨ s.pic.picture_coding_type = 2) := by
      rw [hB]
      decide
    rw [if_pos hB, if_neg hnot]
  · have hanchor : s.pic.picture_coding_type = 1 ∨ s.pic.picture_coding_type = 2 := by
      obtain h | h | h := hs
      · exact .inl h
      · exact .inr h
      · exact absurd h hB
    rw [if_neg hB, if_pos hanchor]

/-- What begins at a start code of the slice loop does not depend on the place it was read at. -/
theorem State.sliceLoop_ctx (s : State) (x : Ctx) (c : Byte) : ({ s with ctx := x } : State).sliceLoop c = s.sliceLoop c := by
  unfold State.sliceLoop
  split <;> rfl

/-- With structure 3 the picture begins, at its first start code or at the end of the buffer (R597). -/
theorem State.afterExtensions_begun (hs : s.Supported) (h3 : s.pic.picture_structure = 3) :
    (∀ c, s.afterExtensions (some c) = .go (s.pictureBegun.sliceLoop c)) ∧
    s.afterExtensions none = .go (s.pictureBegun.finishPicture false) := by
  have hbegun := State.startPicture_eq hs
  obtain ⟨htype, hstructure⟩ := s.picDefaults_keeps
  unfold State.afterExtensions
  unfold State.Supported at hs
  rw [s.picDefaults_eq]
  dsimp only
  refine ⟨fun c => ?_, ?_⟩
  · rw [htype, hstructure, if_pos hs, if_neg (not_not.2 h3), hbegun]
    exact congrArg Flow.go (s.pictureBegun.sliceLoop_ctx s.ctx c)
  · rw [htype, hstructure, if_pos hs, if_neg (not_not.2 h3), hbegun]
    rfl

/-- A picture of another type is logged and its slices are passed over (R322). -/
theorem State.afterExtensions_skipped (hs : ¬ s.Supported) :
    let t := ({ s with pic := s.picDefaults } : State).log (.skippedPicture s.pic.picture_coding_type s.cmd.bp)
    (∀ c, s.afterExtensions (some c) = .go (t.skipLoop c)) ∧
    s.afterExtensions none = .go ((t.setPhase .awaitPictureStart).finishDecode false s.bufLen) := by
  obtain ⟨htype, -⟩ := s.picDefaults_keeps
  unfold State.afterExtensions
  unfold State.Supported at hs
  rw [s.picDefaults_eq]
  dsimp only
  refine ⟨fun c => ?_, ?_⟩
  · rw [htype, if_neg hs]
  · rw [htype, if_neg hs]
    rfl

/-- What a start code does at the top of `decode` does not depend on the place it was read at. -/
theorem State.topCode_ctx (s : State) (x : Ctx) (c : Byte) : ({ s with ctx := x } : State).topCode c = s.topCode c := by
  unfold State.topCode
  split_ifs <;> rfl

end AfterExtensions

/-- Settles O17: extension and user-data codes are taken, and `afterExtensions` decides for the others. -/
theorem pictureStarts : Obligations.PictureStarts := by
  refine fun s hc => ⟨?_, ?_, fun hs h3 => ⟨fun v hv => ?_, fun i c hi h5 h2 => ?_⟩,
    fun hs h3 => ⟨fun v hv => ?_, fun i c hi h5 h2 => ?_⟩⟩
  · rw [show exec .extension_start_code s = (startCodeElem 0xB5 s).finish from rfl, startCodeElem, hc]
    rfl
  · rw [show exec .user_data_start_code s = (startCodeElem 0xB2 s).finish from rfl, startCodeElem, hc]
    rfl
  · rw [RunsCode.at_picExt (exec_sliceStartCode v) hc (isSliceCode_ne hv (by decide)) (isSliceCode_ne hv (by decide)),
      State.afterExtensions_refused (s := s.consume 32) hs h3]
    rfl
  · rw [hi.runsCode.at_picExt hc h5 h2, State.afterExtensions_refused (s := s.consume 32) hs h3]
    rfl
  · rw [RunsCode.at_picExt (exec_sliceStartCode v) hc (isSliceCode_ne hv (by decide)) (isSliceCode_ne hv (by decide)),
      (State.afterExtensions_begun (s := s.consume 32) hs h3).1, State.sliceLoop, if_pos hv]
    rfl
  · rw [hi.runsCode.at_picExt hc h5 h2, (State.afterExtensions_begun (s := s.consume 32) hs h3).1,
      hi.runsCode.at_slices (s := s.pictureBegun) rfl]
    rfl

/-- Settles O18: the log entry, then the skip loop, which hands its last code to the top loop. -/
theorem unsupportedPictureSkipped : Obligations.UnsupportedPictureSkipped := by
  refine fun s => ⟨fun hc hs => ⟨fun v hv => ?_, fun i c hi h5 h2 => ?_⟩, fun hc => ⟨fun v hv => ?_, fun i c hi => ?_⟩⟩
  · rw [RunsCode.at_picExt (exec_sliceStartCode v) hc (isSliceCode_ne hv (by decide)) (isSliceCode_ne hv (by decide)),
      (State.afterExtensions_skipped (s := s.consume 32) hs).1, State.skipLoop, if_pos hv]
    rfl
  · rw [hi.runsCode.at_picExt hc h5 h2, (State.afterExtensions_skipped (s := s.consume 32) hs).1, State.skipLoop,
      hi.not_slice, if_neg Bool.false_ne_true, hi.runsCode.at_top rfl]
    exact congrArg Host.Outcome.next (State.topCode_ctx _ (.startCode .top) c).symm
  · rw [RunsCode.at_skipSlices (exec_sliceStartCode v) hc, State.skipLoop, if_pos hv]
    exact congrArg Host.Outcome.next (State.scan_of_ctx hc)
  · rw [hi.runsCode.at_skipSlices hc, State.skipLoop, hi.not_slice, if_neg Bool.false_ne_true, hi.runsCode.at_top rfl]
    exact congrArg Host.Outcome.next (State.topCode_ctx _ (.startCode .top) c).symm

-- ---------------------------------------------------------------- the end of the buffer (R676)

theorem step_endOfBuffer {s : State} {m : ScanMode} (hc : s.ctx = .startCode m) (hn : s.NoPrefix) :
    step s = ((s.setBp s.bufBits).endOfBuffer m).finish := by
  rw [step, (State.fetch_startCode hc).2 hn]

/-- Settles O8: `endOfBuffer` at each of the four places. -/
theorem endOfBuffer : Obligations.EndOfBuffer := by
  refine fun s hn => ⟨fun hc => ?_, fun hc => ?_, fun hc => ?_, fun hc => ⟨fun hs h3 => ?_, fun hs h3 => ?_, fun hs => ?_⟩⟩
  · rw [step_endOfBuffer hc hn]
    rfl
  · rw [step_endOfBuffer hc hn]
    rfl
  · rw [step_endOfBuffer hc hn]
    rfl
  · rw [step_endOfBuffer hc hn, step_endOfBuffer (s := s.pictureBegun) rfl hn, State.endOfBuffer,
      (State.afterExtensions_begun (s := s.setBp s.bufBits) hs h3).2]
    rfl
  · rw [step_endOfBuffer hc hn, State.endOfBuffer, State.afterExtensions_refused (s := s.setBp s.bufBits) hs h3]
    rfl
  · rw [step_endOfBuffer hc hn, State.endOfBuffer, (State.afterExtensions_skipped (s := s.setBp s.bufBits) hs).2]
    exact (step_endOfBuffer (m := .skipSlices)
      (s := { s.log (.skippedPicture s.pic.picture_coding_type (8 * s.bufLen)) with
        ctx := .startCode .skipSlices, pic := s.picDefaults }) rfl hn).symm

end Sys2Proof.Machine
end

section
/-! PROOFS. Headers and extensions (R303 to R342): the registers each one writes. -/

namespace Sys2Proof.Machine

-- ---------------------------------------------------------------- extension identifiers (R310)

/-- Settles O19: the identifier's row says whether its fields are read. -/
theorem extensionIdentifiers : Obligations.ExtensionIdentifiers := by
  refine fun s m hc => ⟨fun r hr => ?_, ?_, ?_, fun hiso => ?_, fun hignore => ?_⟩
  · rw [exec_skippedIdRows r hr, extensionSkipped, hc]
    rfl
  · rw [show exec .extension_id_1_sequence_extension s = (extensionRead .seqExt s).finish from rfl, extensionRead, hc]
    rfl
  · rw [show exec .extension_id_8_picture_coding_extension s = (extensionRead .picCodingExt s).finish from rfl,
      extensionRead, hc]
    rfl
  · rw [show exec .extension_id_3_quant_matrix_extension s = (quantMatrixId s).finish from rfl, quantMatrixId, hiso]
    dsimp only
    rw [extensionRead, hc]
    rfl
  · rw [show exec .extension_id_3_quant_matrix_extension s = (quantMatrixId s).finish from rfl, quantMatrixId, hignore]
    dsimp only
    rw [extensionSkipped, hc]
    rfl

-- ---------------------------------------------------------------- extensions (R306, R312, R330)

/-- Settles O21: the fields are written, then the chroma format and the sizes are checked. -/
theorem sequenceExtension : Obligations.SequenceExtension := by
  intro s m pl prog cf hx vx bx mk vbvx ld fn fd hc e t
  have he : e = (sequenceExtensionFields pl prog cf hx vx bx vbvx ld fn fd s).finish := rfl
  rw [sequenceExtensionFields, hc] at he
  dsimp only at he
  refine ⟨fun hcf => ?_, fun hcf hsize => ?_, fun hcf hx0 hy0 => ?_⟩
  · rw [he, if_pos hcf]
    rfl
  · rw [he, if_neg (not_not.2 hcf), if_pos hsize]
    rfl
  · rw [he, if_neg (not_not.2 hcf), if_neg (not_or.2 ⟨not_not.2 hx0, not_not.2 hy0⟩)]
    rfl

/-- Settles O23: with and without the composite display fields. -/
theorem pictureCodingExtension : Obligations.PictureCodingExtension := by
  intro s m f00 f01 f10 f11 dcp ps tff fpfd cmv qst ivf alt rff c420 pf cd hc r
  rw [show exec (.picture_coding_extension_fields f00 f01 f10 f11 dcp ps tff fpfd cmv qst ivf alt rff c420 pf cd) s =
    (pictureCodingExtensionFields f00 f01 f10 f11 dcp ps tff fpfd cmv qst ivf alt rff c420 pf cd s).finish from rfl,
    pictureCodingExtensionFields, hc]
  cases cd <;> rfl

/-- Settles O24: every form is `pictureHeaderFields` with its vector fields. -/
theorem pictureHeaders : Obligations.PictureHeaders := by
  intro s tr vd extra hc base
  have hfields : ∀ len ct fields, (pictureHeaderFields len tr ct vd fields extra s).finish =
      .next { s.consume (len + (9 * extra.length + 1)) with ctx := .startCode .picExt, pic := fields (base ct) } := by
    intro len ct fields
    rw [pictureHeaderFields, hc]
    rfl
  exact ⟨hfields 29 1 id, fun fpf ff => hfields 33 2 fun r => r.setForward fpf ff,
    fun fpf ff fpb bf => hfields 37 3 fun r => (r.setForward fpf ff).setBackward fpb bf, fun ct => hfields 29 ct id⟩

-- ---------------------------------------------------------------- slice headers (R340, R610)

/-- Settles O25: both forms are `sliceHeaderFields` with the bits that follow the quantiser code. -/
theorem sliceHeaders : Obligations.SliceHeaders := by
  intro s q x extra hc hq dc z t
  have hfields : ∀ rest, (sliceHeaderFields q rest s).finish = .next (t.consume (5 + rest)) := by
    intro rest
    rw [sliceHeaderFields, hc]
    dsimp only
    rw [if_neg hq]
    rfl
  refine ⟨hfields 1, (hfields (9 + (9 * extra.length + 1))).trans ?_⟩
  rw [← Nat.add_assoc]

-- ---------------------------------------------------------------- quantiser matrices (R303, R306, R383)

/-- Writing to different places leaves at each what was written there. -/
theorem getD_foldl_set {α : Type} {pos : Nat → Nat} {f : Nat → α} {d : α} (l : List Nat) (q : List α)
    (hnodup : (l.map pos).Nodup) :
    (∀ k ∈ l, pos k < q.length → (l.foldl (fun q k => q.set (pos k) (f k)) q).getD (pos k) d = f k) ∧
    ∀ j, j ∉ l.map pos → (l.foldl (fun q k => q.set (pos k) (f k)) q).getD j d = q.getD j d := by
  induction l generalizing q with
  | nil => exact ⟨fun k hk => absurd hk List.not_mem_nil, fun j _ => rfl⟩
  | cons a l ih =>
    obtain ⟨hfresh, hrest⟩ := List.nodup_cons.1 hnodup
    obtain ⟨hin, hout⟩ := ih (q.set (pos a) (f a)) hrest
    refine ⟨fun k hk hlt => ?_, fun j hj => ?_⟩
    · obtain rfl | hk := List.mem_cons.1 hk
      · refine (hout _ hfresh).trans ?_
        simp [List.getD_eq_getElem?_getD, hlt]
      · exact hin k hk (by rwa [List.length_set])
    · obtain ⟨hne, hj⟩ := not_or.1 (mt List.mem_cons.2 hj)
      refine (hout j hj).trans ?_
      simp [List.getD_eq_getElem?_getD, List.getElem?_set_ne (Ne.symm hne)]

theorem zigzag_nodup : ((List.range 64).map (scanPos false)).Nodup := by decide

theorem zigzag_lt : ∀ k ∈ List.range 64, scanPos false k < 64 := by decide

/-- Byte `k` of a matrix goes to its zig-zag position (R383). -/
theorem loadMatrix_getD {old new : List Byte} (hold : old.length = 64) {k : Nat} (hk : k < 64) :
    (loadMatrix old new).getD (zigzagScan.getD k 0) 0 = new.getD k 0 :=
  (getD_foldl_set (List.range 64) old zigzag_nodup).1 k (List.mem_range.2 hk)
    (hold ▸ zigzag_lt k (List.mem_range.2 hk))

theorem loadOptional_eq (old : List Byte) (m : Option (List Byte)) :
    loadOptional old m = (m.map (loadMatrix old)).getD old := by
  cases m with
  | none => rfl
  | some m => rw [loadOptional, Option.map_some, Option.getD_some]

/-- Settles O22: the matrices carried replace the old ones, and a GOP header does nothing. -/
theorem quantMatrixAndGop : Obligations.QuantMatrixAndGop := by
  refine ⟨fun s m a b c d hc => ?_, fun old new h => ⟨(loadMatrix_length old new).trans h, fun k hk => loadMatrix_getD h hk⟩,
    fun s tc cg bl hc => ?_⟩
  · rw [show exec (.quant_matrix_extension_fields a b c d) s = (quantMatrixFields a b c d s).finish from rfl,
      quantMatrixFields, hc]
    simp only [loadOptional_eq]
    rfl
  · rw [show exec (.group_of_pictures_fields tc cg bl) s = (gopFields s).finish from rfl, gopFields, hc]
    rfl

-- ---------------------------------------------------------------- the sequence header (R303, R305, R599)

section SequenceHeader
variable {s : State}

/-- A sequence header leaves the defaults with the matrices sent under `iso`, and the old ones under `ignore` (R303). -/
theorem SequenceRegs.headerMatrices_eq (r : SequenceRegs) (p : LoadMatrices) (intra nonIntra : Option (List Byte)) :
    r.headerMatrices p intra nonIntra = { r with
      intraQ := if p = .iso then (intra.map (loadMatrix defaultIntra)).getD defaultIntra else r.intraQ,
      nonIntraQ :=
        if p = .iso then (nonIntra.map (loadMatrix defaultNonIntra)).getD defaultNonIntra else r.nonIntraQ } := by
  cases p with
  | iso =>
    rw [SequenceRegs.headerMatrices, loadOptional_eq, loadOptional_eq]
    rfl
  | ignore => rfl

theorem badGeometry_iff {hs vs : BitVec 12} : badGeometry hs vs = true ↔ hs = 0 ∨ vs = 0 ∨ 2800 < vs.toNat := by
  simp only [badGeometry, Bool.or_eq_true, beq_iff_eq, decide_eq_true_eq, or_assoc]

/-- What follows a sequence header's allocation check (R592, R599, R675). -/
theorem afterAlloc_allocWith (s : State) (ok : Bool) :
    afterAlloc (s.allocWith ok) =
      if s.inst.allocated = some (s.width, s.height) then
        { s with ctx := .startCode .top, inst := { s.inst with phase := .awaitPictureStart } }
      else if ok then
        { s with
          ctx := .startCode .top,
          inst := { s.inst with
            phase := .awaitPictureStart, allocated := some (s.width, s.height), fb := [], fwdIdx := 0, bwdIdx := 1,
            auxIdx := 2, curIdx := 2, ring := s.inst.ring.map fun k => { k with pts := 0 } } }
      else
        { s with
          ctx := .idle, inst := { s.inst with phase := .failed },
          outbox := s.outbox ++ [.decoded false s.bufLen (s.cmd.errLog ++ [.allocFailed])],
          cmd := { s.cmd with errLog := s.cmd.errLog ++ [.allocFailed], ok := false, consumed := s.bufLen } } := by
  unfold State.allocWith
  split_ifs <;> rfl

end SequenceHeader

/-- Settles O20: the sizes are tested first; then `afterAlloc_allocWith` at the registers written. -/
theorem sequenceHeader : Obligations.SequenceHeader := by
  intro s hs vs ar fr br mk vbv cp intra nonIntra hc n w h seq e
  have he : e = (sequenceHeaderFields hs vs ar fr br vbv cp intra nonIntra s).finish := rfl
  have hn : s.cmd.bp + (62 + matrixLen intra + matrixLen nonIntra) = n := by
    rw [← Nat.add_assoc, ← Nat.add_assoc]
  rw [sequenceHeaderFields, hc] at he
  dsimp only at he
  refine ⟨fun hbad => ?_, fun h0 h1 h2 => ?_⟩
  · rw [he, if_pos (badGeometry_iff.2 hbad), ← hn]
    rfl
  · have hgood : ¬ badGeometry hs vs = true := by
      rw [badGeometry_iff]
      rintro (h | h | h)
      · exact h0 h
      · exact h1 h
      · exact absurd h (Nat.not_lt.2 h2)
    rw [he, if_neg hgood, afterAlloc_allocWith]
    have hregs : (s.sequenceFields ar fr br vbv cp intra nonIntra).onSeq (fun r =>
        { r with horizontal_size_value := hs, vertical_size_value := vs }) =
        { s with seq := seq, cmd := { s.cmd with bp := n } } := by
      rw [← hn]
      unfold State.sequenceFields
      simp only [SequenceRegs.headerMatrices_eq]
      rfl
    rw [hregs]
    rfl

end Sys2Proof.Machine
end

section
/-! PROOFS. Host commands (R590): what the idle core does with the oldest one. And the words of O1, decoded. -/

namespace Sys2Proof.Machine

theorem step_idle {s : State} (hc : s.ctx = .idle) : step s = s.hostStep.finish := by
  rw [step, State.fetch_idle hc]

theorem step_command {s : State} (hc : s.ctx = .idle) {k : Command} {rest : List Command} (hi : s.inbox = k :: rest) :
    step s = (({ s with inbox := rest } : State).runCommand k).finish := by
  rw [step_idle hc, State.hostStep, hi]

/-- An answer leaves the core idle, as it was. -/
theorem State.reply_idle {s : State} (hc : s.ctx = .idle) (r : Reply) :
    s.reply r = { s with outbox := s.outbox ++ [r] } := by
  rw [State.reply, ← hc]

/-- A decode command starts, or returns at once after a failed allocation (R596, R675). -/
theorem State.startDecode_cases (s : State) (buf : List Byte) (pts : BitVec 64) :
    let cmd : CommandState := { s.cmd with cmdNo := s.cmd.cmdNo + 1, pkt := buf, bp := 0, pts := pts, errLog := [] }
    (s.inst.phase ≠ .failed → s.startDecode buf pts = { s with
      ctx := .startCode .top, cmd := cmd,
      inst := { s.inst with
        phase := if s.inst.phase = .pictureComplete then .awaitPictureStart else s.inst.phase } }) ∧
    (s.inst.phase = .failed → s.startDecode buf pts = { s with
      ctx := .idle, outbox := s.outbox ++ [.decoded false 0 []], cmd := { cmd with ok := false, consumed := 0 } }) := by
  intro cmd
  unfold State.startDecode
  refine ⟨fun h => ?_, fun h => ?_⟩
  · rw [if_neg h]
    by_cases hp : s.inst.phase = .pictureComplete
    · rw [if_pos hp, if_pos hp]
      rfl
    · rw [if_neg hp, if_neg hp]
      rfl
  · rw [if_pos h]
    rfl

/-- Settles O50: `runCommand` of each command. -/
theorem hostCommands : Obligations.HostCommands := by
  refine fun s hc => ⟨fun hi => ?_, fun rest hi => ?_, fun buf pts rest hi => ⟨fun hp => ?_, fun hp => ?_⟩,
    fun q rest hi => ?_, fun k x rest hi hk => ?_, fun k c x y rest hk => ⟨fun hi => ?_, fun hi => ?_⟩,
    fun k c x y slot rest hi hk => ⟨fun hx hy => ?_, fun hout => ?_⟩⟩
  · rw [step_idle hc, State.hostStep, hi]
    rfl
  · rw [step_command hc hi]
    rfl
  · rw [step_command hc hi, State.runCommand, (State.startDecode_cases { s with inbox := rest } buf pts).1 hp]
    rfl
  · rw [step_command hc hi, State.runCommand, (State.startDecode_cases { s with inbox := rest } buf pts).2 hp, ← hc]
    rfl
  · rw [step_command hc hi, State.runCommand, State.reply_idle (s := { s with inbox := rest }) hc]
    rfl
  · rw [step_command hc hi, State.runCommand, hk]
    exact congrArg Host.Outcome.next (State.reply_idle (s := { s with inbox := rest }) hc _)
  · rw [step_command hc hi, State.runCommand, hk]
    rfl
  · rw [step_command hc hi, State.runCommand, hk]
    rfl
  · rw [step_command hc hi, State.runCommand, hk]
    refine (congrArg Flow.finish (if_pos ⟨hx, hy⟩)).trans ?_
    exact congrArg Host.Outcome.next (State.reply_idle (s := { s with inbox := rest }) hc _)
  · rw [step_command hc hi, State.runCommand, hk]
    exact (congrArg Flow.finish (if_neg hout)).trans rfl

end Sys2Proof.Machine

namespace Sys2Proof
open Machine

/-- Settles O1: each word is decoded by evaluation. -/
theorem decodeWords : Obligations.DecodeWords := by
  unfold Obligations.DecodeWords
  decide

end Sys2Proof
end
